-- ==== Sys2Proof/Word.lean ====
section
/-! DEFINITION. The widths the spec moves its values in (20_memory.md R40, R50): names only. -/

namespace Sys2Proof

/-- A register, an operand, a terrain height, a world coordinate, a command word (10_state.md R11, R23; 30_encoding.md R60). -/
abbrev Word := BitVec 32

/-- A BlockType code, an element of `PERM`, a material id (10_state.md R25; 41_generator.md R116). -/
abbrev Byte := BitVec 8

/-- An occlusion mask, bit `d` the flag of direction code `d` (10_state.md R22; 30_encoding.md R66). -/
abbrev Mask := BitVec 6

/-- An element of `FB`: an unsigned number below `2^34` (10_state.md R24). -/
abbrev Record := BitVec 34

end Sys2Proof
end

