-- ==== Sys2Proof/Syntax.lean ====
section
/-! DEFINITION. What the machine is told: the four commands of spec/opcode_table.json, the host's transactions that carry
them (20_memory.md R42), and reset; with the two small name sets the spec numbers, registers and face directions. -/

namespace Sys2Proof

/-- The commands of 30_encoding.md R61, one constructor per row of spec/opcode_table.json. Only `CONFIG` has an operand in
its word: the 3-bit `dsel`, all eight values of which are encodings (R60, R61). -/
inductive Instr where
  /-- `CONFIG dsel` (40_config_and_table.md R90). -/
  | config (dsel : BitVec 3)
  /-- `BUILD_TABLE` (40_config_and_table.md R93). -/
  | buildTable
  /-- `GENERATE` (41_generator.md R110). -/
  | generate
  /-- `MESH` (42_mesher.md R140). -/
  | mesh
  deriving DecidableEq, Repr

/-- The eleven registers of the space `REG` (20_memory.md R41). -/
inductive Reg where
  | cmd | status | dim | faceCount | cx | cy | cz | seed | noiseCfg | heightBase | caveCfg
  deriving DecidableEq, Repr

/-- The six face directions (30_encoding.md R65). -/
inductive Dir where
  | front | back | top | bottom | left | right
  deriving DecidableEq, Repr

/-- The host's six transactions (20_memory.md R42), with the offset or index as the host gives it; one outside the ranges of
R42 is refused (R43). -/
inductive Transaction where
  | writeReg (off : Nat) (v : Word)
  | readReg (off : Nat)
  | writeGrid (i : Nat) (t : Byte)
  | readGrid (i : Nat)
  | readOcc (t : Nat)
  | readFb (k : Nat)
  deriving DecidableEq, Repr

/-- What can reach the machine from outside: a transaction of the host (10_state.md R10), or reset, which happens between
two transactions (70_reset_and_hazards.md R210). -/
inductive HostEvent where
  | txn (t : Transaction)
  | reset
  deriving DecidableEq, Repr

end Sys2Proof
end

