-- ==== Sys2Proof/Decode.lean ====
section
/-! DEFINITION. The command word (30_encoding.md R60 to R63): its fields, the opcode map as rows, the decoder, and the
encoder written from the same map; and the word as the bytes of a little-endian bus (20_memory.md R49). -/

namespace Sys2Proof

/-! ## Fields of a command word (R60) -/

/-- Bits 3:0. -/
def opcodeField (w : Word) : BitVec 4 := w.extractLsb' 0 4

/-- Bits 6:4. -/
def dselField (w : Word) : BitVec 3 := w.extractLsb' 4 3

/-- Bits 31:7. -/
def zeroField (w : Word) : BitVec 25 := w.extractLsb' 7 25

/-! ## The opcode map (R61) -/

/-- One row of the opcode map: a word is of the row when `(w & mask) = value`. -/
structure OpcodeRow where
  mnemonic : String
  mask : Word
  value : Word
  deriving DecidableEq, Repr

/-- The map of R61 (spec/opcode_table.json). -/
def opcodeRows : List OpcodeRow :=
  [ ⟨"CONFIG", 0xFFFFFF8F, 0x00000001⟩
  , ⟨"BUILD_TABLE", 0xFFFFFFFF, 0x00000002⟩
  , ⟨"GENERATE", 0xFFFFFFFF, 0x00000003⟩
  , ⟨"MESH", 0xFFFFFFFF, 0x00000004⟩ ]

/-- Is `w` a word of the row? -/
def OpcodeRow.covers (r : OpcodeRow) (w : Word) : Bool := (w &&& r.mask) == r.value

/-! ## Decoding -/

/-- Why a word is no command (R63), in the order the decoder looks. -/
inductive IllegalWord where
  /-- A non-zero bit in 31:7. -/
  | zeroBits
  /-- Opcode 0x0, or 0x5 to 0xF. -/
  | reservedOpcode
  /-- Opcode 0x2, 0x3 or 0x4 with a non-zero bit in 6:4. -/
  | operandBits
  /-- Fewer than four bytes were given (only from `decodeBytes`). -/
  | truncated
  deriving DecidableEq, Repr

/-- A command without an operand: bits 6:4 must be 0 (R60). -/
def withoutOperand (w : Word) (i : Instr) : Except IllegalWord Instr :=
  if dselField w = 0 then .ok i else .error .operandBits

/-- The decoder: total on every word, one reading or a named refusal (R61, R63). -/
def decode (w : Word) : Except IllegalWord Instr :=
  if zeroField w ≠ 0 then .error .zeroBits
  else if opcodeField w = 1 then .ok (.config (dselField w))
  else if opcodeField w = 2 then withoutOperand w .buildTable
  else if opcodeField w = 3 then withoutOperand w .generate
  else if opcodeField w = 4 then withoutOperand w .mesh
  else .error .reservedOpcode

/-- The encoder, from the words of R61: `0x01 + 16*dsel`, `0x02`, `0x03`, `0x04`. -/
def encode : Instr → Word
  | .config dsel => 0x01 + 16 * dsel.zeroExtend 32
  | .buildTable => 0x02
  | .generate => 0x03
  | .mesh => 0x04

/-! ## The word on a byte bus (20_memory.md R49): the byte at the lowest address is bits 7:0 -/

/-- The four bytes of a register value, lowest address first. -/
def wordBytes (w : Word) : List Byte :=
  [w.extractLsb' 0 8, w.extractLsb' 8 8, w.extractLsb' 16 8, w.extractLsb' 24 8]

/-- The register value four bytes carry, lowest address first. -/
def wordOfBytes (b0 b1 b2 b3 : Byte) : Word := b3 ++ b2 ++ b1 ++ b0

/-- The decoder on bytes: the command the first four carry, and the bytes after them. -/
def decodeBytes : List Byte → Except IllegalWord (Instr × List Byte)
  | b0 :: b1 :: b2 :: b3 :: rest =>
    match decode (wordOfBytes b0 b1 b2 b3) with
    | .ok i => .ok (i, rest)
    | .error e => .error e
  | _ => .error .truncated

/-- A command as the bytes of its word. -/
def encodeBytes (i : Instr) : List Byte := wordBytes (encode i)

/-- The command the decoder reads from a word numbered as spec/opcode_table.json numbers it: `nbits` bits of `w`, every bit
above them 0, laid out as the bus carries it. -/
def decodeTableWord (nbits w : Nat) : Option Instr :=
  match decodeBytes (wordBytes (BitVec.ofNat 32 (w % 2 ^ nbits))) with
  | .ok (i, _) => some i
  | .error _ => none

end Sys2Proof
end

