-- ==== Sys2Proof/Config.lean ====
section
/-! DEFINITION. What the spec fixes once (sizes), what an implementation fixes (the OPEN parameters of 00_scope.md R5)
and what nothing fixes (the free values of 93_implementation_defined.md V1 to V5). A free value depends on its family and index
alone, not on the instance: log 18. -/

namespace Sys2Proof

/-- The OPEN parameters of 00_scope.md R5, fixed for a whole run. They are no state of the VCM (10_state.md R29); they ride in
`State` because the interface's step takes no other argument (log 4). `NINST` is the length of a `System`. -/
structure Params where
  /-- `NTYPES`, the number of registered block types. -/
  nTypes : Nat
  /-- `OCC_INIT[t]` for `t < NTYPES`, in order. -/
  occInit : List Mask
  /-- `MaterialOf(t, d)` at position `6*t + d`, for `t < NTYPES` and `d` in 0..5. -/
  materials : List Byte
  /-- `SCRATCH_DEPTH`, the number of entries of the scratch memory. -/
  scratchDepth : Nat
  deriving DecidableEq, Repr

/-- The reference values of 00_scope.md R5 (the ones 95_test_vectors.md uses). -/
def Params.reference : Params where
  nTypes := 5
  occInit := [0x00, 0x00, 0x3F, 0x3F, 0x3F]
  materials := (List.range 30).map fun k => BitVec.ofNat 8 (8 * (k / 6) + k % 6)
  scratchDepth := 1024

namespace Config

/-- `GRID_DEPTH` (00_scope.md R5, 10_state.md R21). -/
def gridDepth : Nat := 32768

/-- `FB_DEPTH` (00_scope.md R5, 10_state.md R24). -/
def fbDepth : Nat := 196608

/-- Free value (log 5): what `GRID[i]` holds while nothing has written it since the reset that opened family `tag`
(10_state.md R32, 93_implementation_defined.md V1, V4). -/
opaque freeGrid (tag i : Nat) : Byte

/-- Free value (log 5): what `SCRATCH[c]` holds while nothing has written it since the reset that opened family `tag`
(10_state.md R32, 93_implementation_defined.md V1, V5). -/
opaque freeScratch (tag c : Nat) : Word

/-- Free value (log 5, log 6): what `FB[k]` holds while nothing has written it since the reset, or the `ERR_BAD_TYPE`
fault, that opened family `tag` (10_state.md R32, 42_mesher.md R142, 93_implementation_defined.md V1 to V3). -/
opaque freeFb (tag k : Nat) : Record

/-- Free value (log 6): `FACE_COUNT` after an `ERR_BAD_TYPE` fault (42_mesher.md R142, 93_implementation_defined.md V3). -/
opaque freeFaceCount (tag : Nat) : BitVec 18

/-- Free value (log 6): `STATUS.IS_EMPTY` after an `ERR_BAD_TYPE` fault (42_mesher.md R142, 93_implementation_defined.md V3). -/
opaque freeIsEmpty (tag : Nat) : Bool

end Config

end Sys2Proof
end

