-- ==== Sys2Proof/Machine/State.lean ====
section
/-! DEFINITION. One VCM instance as plain data (10_state.md), why a step can stop, and the machine right after reset (R32). -/

namespace Sys2Proof.Machine

/-- One of the spaces `GRID`, `SCRATCH`, `FB` (20_memory.md R40): the elements something has written, by rising index, and
the family of free values the others read as (log 5). An unlisted index holds no written value; the readers of
Machine/Ops.lean answer the family's free value for it. -/
structure Memory (α : Type) where
  tag : Nat
  cells : List (Nat × α)
  deriving DecidableEq, Repr

/-- The fault codes of 60_exceptions.md R181. Every one is raised by a command the host issues and is a NEXT state of the
model (`raiseFault`), never an outcome `fault`. -/
inductive ErrCode where
  | badCmd | badDim | alloc | tableUnbuilt | tableRebuilt | badType
  deriving DecidableEq, Repr

/-- What a read transaction returns to the host (20_memory.md R42). -/
inductive Reply where
  | reg (v : Word)
  | grid (t : Byte)
  | occ (m : Mask)
  | fb (r : Record)
  deriving DecidableEq, Repr

/-- Why the machine could stop for good. It never does: a fault of the spec is a state the host can still read and write
(60_exceptions.md R183, R184), so there is no constructor and nobody raises one. Safe (log 11). -/
inductive Fault where
  deriving DecidableEq, Repr

/-- Why a step has no meaning. -/
inductive Refusal where
  /-- An instruction without a meaning yet; no arm of `exec` raises it any more. Safe. -/
  | notModelled (mnemonic : String)
  /-- The host's request names a register offset or an index outside the ranges of 20_memory.md R42, so it is no transaction
  of the VCM and the spec gives it no meaning (R43). Raised by the host port, never by a command. Safe (log 8). -/
  | outsideMap
  deriving DecidableEq, Repr

/-- One VCM instance (10_state.md). -/
structure State where
  /-- The OPEN parameters: fixed, never written (10_state.md R29, log 4). -/
  params : Params
  /-- `STATUS.FAULT` (R16). -/
  fault : Bool
  /-- `STATUS.ERR` (R16). -/
  err : BitVec 4
  /-- `STATUS.CONFIGURED` (R16). -/
  configured : Bool
  /-- `STATUS.TBL_BUILT` (R16). -/
  tblBuilt : Bool
  /-- `STATUS.IS_EMPTY` (R16). -/
  isEmpty : Bool
  /-- `DIM.DSEL` (R17). -/
  dsel : BitVec 3
  /-- `FACE_COUNT[17:0]` (R18). -/
  faceCount : BitVec 18
  /-- `CX` (R11). -/
  cx : Word
  /-- `CY` (R11). -/
  cy : Word
  /-- `CZ` (R11). -/
  cz : Word
  /-- `SEED` (R11). -/
  seed : Word
  /-- `NOISE_CFG` (R12). -/
  noiseCfg : Word
  /-- `HEIGHT_BASE` (R11). -/
  heightBase : Word
  /-- `CAVE_CFG` (R13). -/
  caveCfg : Word
  /-- `GRID` (R21). -/
  grid : Memory Byte
  /-- `OCC`, element `t` at position `t` (R22). -/
  occ : List Mask
  /-- `SCRATCH` (R23). -/
  scratch : Memory Word
  /-- `FB` (R24). -/
  fb : Memory Record
  /-- The model's own: what the host will do next, first to come first (log 1). -/
  pending : List HostEvent
  /-- The model's own: what the latest transaction returned, if it was a read (log 3). -/
  reply : Option Reply
  /-- The model's own: the next unused family of free values (log 7). -/
  nextFree : Nat
  deriving DecidableEq, Repr

/-- The state of 10_state.md R32 for given parameters, its unspecified memories reading as family `tag`, and with the given
events still to come. -/
def State.powerOn (p : Params) (tag : Nat) (events : List HostEvent) : State where
  params := p
  fault := false
  err := 0
  configured := false
  tblBuilt := false
  isEmpty := true
  dsel := 0
  faceCount := 0
  cx := 0
  cy := 0
  cz := 0
  seed := 0
  noiseCfg := 0
  heightBase := 0
  caveCfg := 0
  grid := ⟨tag, []⟩
  occ := List.replicate p.nTypes 0
  scratch := ⟨tag, []⟩
  fb := ⟨tag, []⟩
  pending := events
  reply := none
  nextFree := tag + 1

/-- The machine right after reset, with the reference parameters and nothing asked of it yet (R32, R211; log 1, log 4). -/
def State.reset : State := State.powerOn Params.reference 0 []

end Sys2Proof.Machine
end

