-- ==== Sys2Proof/Machine/Flags.lean ====
section
/-! DEFINITION. `STATUS`, `DIM` and `FACE_COUNT` as the host reads them (10_state.md R15 to R18), the fault codes
(60_exceptions.md R181), and every way a command writes the flags. -/

namespace Sys2Proof.Machine

/-- The 4-bit code of a fault (60_exceptions.md R181). -/
def ErrCode.code : ErrCode → BitVec 4
  | .badCmd => 1
  | .badDim => 2
  | .alloc => 3
  | .tableUnbuilt => 4
  | .tableRebuilt => 5
  | .badType => 6

/-! ## Sizes that follow from `DSEL` (00_scope.md R3, R4) -/

/-- `D = 2^DSEL`. -/
def dimOf (dsel : BitVec 3) : Nat := 2 ^ dsel.toNat

/-- `POSW = 3*DSEL`. -/
def posW (dsel : BitVec 3) : Nat := 3 * dsel.toNat

/-- `RECW = POSW + 19`. -/
def recW (dsel : BitVec 3) : Nat := posW dsel + 19

/-- `CW`: 32 while a record fits, else 64 (00_scope.md R4, 30_encoding.md R76). -/
def containerW (dsel : BitVec 3) : Nat := if recW dsel ≤ 32 then 32 else 64

/-- `D` of a state. -/
def State.dim (s : State) : Nat := dimOf s.dsel

/-- `N = D³`, the number of cells of the chunk. -/
def State.cellCount (s : State) : Nat := s.dim ^ 3

/-! ## The read-only registers as words -/

/-- `STATUS` (10_state.md R16): reserved 31:8, `ERR` 7:4, `IS_EMPTY` 3, `TBL_BUILT` 2, `CONFIGURED` 1, `FAULT` 0. -/
def statusWord (s : State) : Word :=
  0#24 ++ s.err ++ BitVec.ofBool s.isEmpty ++ BitVec.ofBool s.tblBuilt ++ BitVec.ofBool s.configured
    ++ BitVec.ofBool s.fault

/-- `DIM` (10_state.md R17): `RECW` 29:24, `POSW` 19:16, `D` 13:8, `DSEL` 2:0, the rest reserved; all 0 while `DSEL = 0`. -/
def dimWord (s : State) : Word :=
  if s.dsel = 0 then 0
  else 0#2 ++ BitVec.ofNat 6 (recW s.dsel) ++ 0#4 ++ BitVec.ofNat 4 (posW s.dsel) ++ 0#2
    ++ BitVec.ofNat 6 (dimOf s.dsel) ++ 0#5 ++ s.dsel

/-- `FACE_COUNT` (10_state.md R18): the count in 17:0, 31:18 reserved. -/
def faceCountWord (s : State) : Word := 0#14 ++ s.faceCount

/-! ## Flag writes -/

/-- What a fault writes, and all it writes (60_exceptions.md R183): `FAULT <- 1`, `ERR <- code`. -/
def State.setFault (s : State) (c : ErrCode) : State := { s with fault := true, err := c.code }

/-- What a successful `CONFIG` writes (40_config_and_table.md R90): `DSEL`, `CONFIGURED <- 1`, `FACE_COUNT <- 0`,
`IS_EMPTY <- 1`. -/
def State.setConfigured (s : State) (dsel : BitVec 3) : State :=
  { s with dsel := dsel, configured := true, faceCount := 0, isEmpty := true }

/-- What a successful `BUILD_TABLE` writes (40_config_and_table.md R93): the table and `TBL_BUILT <- 1`. -/
def State.setTable (s : State) (occ : List Mask) : State := { s with occ := occ, tblBuilt := true }

/-- What a successful `MESH` writes (42_mesher.md R140, R161): the face buffer, `FACE_COUNT`, `IS_EMPTY`. -/
def State.setMesh (s : State) (fb : Memory Record) (count : Nat) (empty : Bool) : State :=
  { s with fb := fb, faceCount := BitVec.ofNat 18 count, isEmpty := empty }

end Sys2Proof.Machine
end

