-- ==== Sys2Proof/Machine/Ops.lean ====
section
/-! DEFINITION. The operations every command and transaction is written with: integer arithmetic (00_scope.md section 5.1),
reading and writing a space (20_memory.md R40, R46), taking a fault (60_exceptions.md R183 to R185), and reset (R187, 70_reset_and_hazards.md R210). -/

namespace Sys2Proof.Machine

/-- What a step, or a part of one, answers. -/
abbrev Outcome := Host.Outcome State Fault Refusal

/-! ## Arithmetic (00_scope.md section 5.1, 41_generator.md R131) -/

/-- `wrap32(n)`: the `s32` congruent to `n` modulo `2^32`. -/
def wrap32 (n : Int) : Word := BitVec.ofInt 32 n

/-- `asr(v, k) = floor(v / 2^k)` of a signed value. -/
def asr (v : Word) (k : Nat) : Int := v.toInt / 2 ^ k

/-- `n mod 256`, the low byte of the two's-complement `n`. -/
def lowByte (n : Int) : Byte := BitVec.ofInt 8 n

/-- `rotl8(v, k)`. -/
def rotl8 (v : Byte) (k : Nat) : Byte := v.rotateLeft k

/-- The `n` bytes of a number, least significant first (20_memory.md R49). -/
def bytesLE : Nat → Nat → List Byte
  | 0, _ => []
  | n + 1, v => BitVec.ofNat 8 v :: bytesLE n (v / 256)

/-! ## Cells of a space: a list by rising index -/

/-- The value written at index `i`, if one was. -/
def lookupCell {α : Type} (i : Nat) : List (Nat × α) → Option α
  | [] => none
  | (k, v) :: rest => if k = i then some v else lookupCell i rest

/-- The cells after `v` is written at index `i`. -/
def insertCell {α : Type} (i : Nat) (v : α) : List (Nat × α) → List (Nat × α)
  | [] => [(i, v)]
  | (k, u) :: rest =>
    if i < k then (i, v) :: (k, u) :: rest
    else if i = k then (i, v) :: rest
    else (k, u) :: insertCell i v rest

/-- The values as cells at indices `k`, `k+1`, ... -/
def numberFrom {α : Type} (k : Nat) : List α → List (Nat × α)
  | [] => []
  | v :: rest => (k, v) :: numberFrom (k + 1) rest

namespace Memory

/-- The canonical form: strictly rising indices. No entry can equal what an unlisted index reads as, since an unlisted
index holds no written value (log 5). -/
abbrev wf {α : Type} (m : Memory α) : Prop := m.cells.Pairwise fun a b => a.1 < b.1

/-- Every listed index is one of the space's `depth` elements (20_memory.md R40). -/
abbrev within {α : Type} (m : Memory α) (depth : Nat) : Prop := ∀ c ∈ m.cells, c.1 < depth

/-- The value written at index `i`, if one was. -/
def lookup {α : Type} (m : Memory α) (i : Nat) : Option α := lookupCell i m.cells

/-- One element written (20_memory.md R46). -/
def write {α : Type} (m : Memory α) (i : Nat) (v : α) : Memory α := { m with cells := insertCell i v m.cells }

/-- The elements `0 .. vals.length-1` written with `vals`, the others as they were: what a loop that writes them in
ascending order leaves. -/
def writeBlock {α : Type} (m : Memory α) (vals : List α) : Memory α :=
  { m with cells := numberFrom 0 vals ++ m.cells.filter fun c => vals.length ≤ c.1 }

/-- Every element unspecified: nothing written in the family `tag` (10_state.md R32, 42_mesher.md R142). -/
def unspecified {α : Type} (tag : Nat) : Memory α := ⟨tag, []⟩

end Memory

/-! ## Reading one element -/

/-- `GRID[i]` (10_state.md R21). -/
def gridAt (s : State) (i : Nat) : Byte := (s.grid.lookup i).getD (Config.freeGrid s.grid.tag i)

/-- `SCRATCH[c]` (10_state.md R23). -/
def scratchAt (s : State) (c : Nat) : Word := (s.scratch.lookup c).getD (Config.freeScratch s.scratch.tag c)

/-- `FB[k]` (10_state.md R24). -/
def fbAt (s : State) (k : Nat) : Record := (s.fb.lookup k).getD (Config.freeFb s.fb.tag k)

/-- `OCC[t]` (10_state.md R22). The table has an element for every `t < NTYPES`; beyond it, where no rule reads, the
answer is the all-false mask (log 16). -/
def occAt (s : State) (t : Nat) : Mask := s.occ.getD t 0

/-! ## Writing -/

/-- `GRID[i] <- t`. -/
def State.setGridCell (s : State) (i : Nat) (t : Byte) : State := { s with grid := s.grid.write i t }

/-- `SCRATCH[0 ..] <- hs`, in ascending index. -/
def State.setScratchBlock (s : State) (hs : List Word) : State := { s with scratch := s.scratch.writeBlock hs }

/-- `GRID[0 ..] <- ts`, in ascending index. -/
def State.setGridBlock (s : State) (ts : List Byte) : State := { s with grid := s.grid.writeBlock ts }

/-- What a read transaction returns (20_memory.md R42). -/
def State.setReply (s : State) (r : Reply) : State := { s with reply := some r }

/-- The state once the next event is taken from the input: the rest to come, nothing returned yet (log 1, log 3). -/
def State.consume (s : State) (rest : List HostEvent) : State := { s with pending := rest, reply := none }

/-! ## Taking a fault, and the way out of one -/

/-- `raise Fault(code)` (60_exceptions.md R183): the flags, and the command ends. Nothing is saved, no mode changes, control
goes nowhere. -/
def raiseFault (c : ErrCode) (s : State) : Outcome := .next (s.setFault c)

/-- What `ERR_BAD_TYPE` leaves unspecified (60_exceptions.md R185, 42_mesher.md R142): every element of `FB`, `FACE_COUNT`
and `IS_EMPTY`, each a free value of an unused family (log 6). -/
def State.loseResults (s : State) : State :=
  { s with
    fb := Memory.unspecified s.nextFree
    faceCount := Config.freeFaceCount s.nextFree
    isEmpty := Config.freeIsEmpty s.nextFree
    nextFree := s.nextFree + 1 }

/-- `raise Fault(ERR_BAD_TYPE)`, the one fault with partial results (60_exceptions.md R185). -/
def raiseBadType (s : State) : Outcome := raiseFault .badType s.loseResults

/-- The halt (60_exceptions.md R184): while `FAULT = 1` a command changes nothing; else `body` runs. -/
def whileRunning (s : State) (body : State → Outcome) : Outcome := if s.fault then .next s else body s

/-- Reset, the only way out of a fault (60_exceptions.md R187, 70_reset_and_hazards.md R210, R211): the state of
10_state.md R32 with the same parameters, the memories unspecified anew, and the events still to come kept (log 9). -/
def resetEvent (s : State) : State := State.powerOn s.params s.nextFree s.pending

end Sys2Proof.Machine
end

