-- ==== Sys2Proof/Machine/Operands.lean ====
section
/-! DEFINITION. Every operand form: the register map and what a host reads and writes there (10_state.md R11 to R20,
20_memory.md R41), the fields of the operand registers, the block types (10_state.md R25, R26), the addressing of the grid
(20_memory.md R44 to R47), and the face directions (30_encoding.md R65 to R67). -/

namespace Sys2Proof.Machine

/-! ## The register map (20_memory.md R41) -/

/-- The register at a byte offset; no other offset is in the map. -/
def regOfOffset : Nat → Option Reg
  | 0x00 => some .cmd
  | 0x04 => some .status
  | 0x08 => some .dim
  | 0x0C => some .faceCount
  | 0x10 => some .cx
  | 0x14 => some .cy
  | 0x18 => some .cz
  | 0x1C => some .seed
  | 0x20 => some .noiseCfg
  | 0x24 => some .heightBase
  | 0x28 => some .caveCfg
  | _ => none

/-- The byte offset of a register. -/
def offsetOf : Reg → Nat
  | .cmd => 0x00
  | .status => 0x04
  | .dim => 0x08
  | .faceCount => 0x0C
  | .cx => 0x10
  | .cy => 0x14
  | .cz => 0x18
  | .seed => 0x1C
  | .noiseCfg => 0x20
  | .heightBase => 0x24
  | .caveCfg => 0x28

/-- The bits of `NOISE_CFG` that exist: 31:16 and 2:0 (10_state.md R12). -/
def noiseCfgBits : Word := 0xFFFF0007

/-- The bits of `CAVE_CFG` that exist: 15:8, 6:4 and 0 (10_state.md R13). -/
def caveCfgBits : Word := 0x0000FF71

/-- What the host reads from a register (10_state.md R11 to R20); `CMD` reads 0 (R19). -/
def readReg (s : State) : Reg → Word
  | .cmd => 0
  | .status => statusWord s
  | .dim => dimWord s
  | .faceCount => faceCountWord s
  | .cx => s.cx
  | .cy => s.cy
  | .cz => s.cz
  | .seed => s.seed
  | .noiseCfg => s.noiseCfg
  | .heightBase => s.heightBase
  | .caveCfg => s.caveCfg

/-- What a host write to a register other than `CMD` does: the operand registers take the bits that exist (R11 to R13), the
read-only registers ignore it (R20). `CMD` holds no state (R19); the command its write issues is the host port's. -/
def writeReg (s : State) (v : Word) : Reg → State
  | .cmd => s
  | .status => s
  | .dim => s
  | .faceCount => s
  | .cx => { s with cx := v }
  | .cy => { s with cy := v }
  | .cz => { s with cz := v }
  | .seed => { s with seed := v }
  | .noiseCfg => { s with noiseCfg := v &&& noiseCfgBits }
  | .heightBase => { s with heightBase := v }
  | .caveCfg => { s with caveCfg := v &&& caveCfgBits }

/-! ## Fields of the operand registers -/

/-- `FREQ_SHIFT = NOISE_CFG[2:0]` (10_state.md R12). -/
def freqShift (s : State) : Nat := (s.noiseCfg.extractLsb' 0 3).toNat

/-- `AMP = NOISE_CFG[31:16]` (10_state.md R12). -/
def amp (s : State) : Nat := (s.noiseCfg.extractLsb' 16 16).toNat

/-- `CAVE_EN = CAVE_CFG[0]` (10_state.md R13). -/
def caveEn (s : State) : Bool := s.caveCfg.getLsbD 0

/-- `CAVE_SHIFT = CAVE_CFG[6:4]` (10_state.md R13). -/
def caveShift (s : State) : Nat := (s.caveCfg.extractLsb' 4 3).toNat

/-- `CAVE_THR = CAVE_CFG[15:8]` (10_state.md R13). -/
def caveThr (s : State) : Byte := s.caveCfg.extractLsb' 8 8

/-- The seed byte `s8`, the xor of the four bytes of `SEED` (41_generator.md R117). -/
def seedByte (seed : Word) : Byte :=
  seed.extractLsb' 0 8 ^^^ seed.extractLsb' 8 8 ^^^ seed.extractLsb' 16 8 ^^^ seed.extractLsb' 24 8

/-! ## Block types (10_state.md R25, R26) -/

namespace BlockType

/-- Code 0. -/
def air : Byte := 0
/-- Code 1. -/
def caveAir : Byte := 1
/-- Code 2. -/
def stone : Byte := 2
/-- Code 3. -/
def dirt : Byte := 3
/-- Code 4. -/
def grass : Byte := 4

end BlockType

/-- `solid(t)`: neither air nor cave-air, decided by the code alone (10_state.md R26). -/
def solid (t : Byte) : Bool := t != BlockType.air && t != BlockType.caveAir

/-! ## Addressing the grid (20_memory.md R44, R45, R47) -/

/-- `flatten3d(x,y,z,D) = z*D² + x*D + y`. -/
def flatten3d (x y z d : Nat) : Nat := z * d ^ 2 + x * d + y

/-- `unflatten3d(i,D) = (x, y, z)`. -/
def unflatten3d (i d : Nat) : Nat × Nat × Nat := ((i % d ^ 2) / d, i % d, i / d ^ 2)

/-- `flatten2d(x,z,D) = z*D + x`. -/
def flatten2d (x z d : Nat) : Nat := z * d + x

/-! ## Face directions (30_encoding.md R65 to R67) -/

end Sys2Proof.Machine

namespace Sys2Proof.Dir

/-- The direction code (R65), which is also the mask bit of the direction (R66). -/
def code : Dir → Nat
  | .front => 0
  | .back => 1
  | .top => 2
  | .bottom => 3
  | .left => 4
  | .right => 5

/-- The opposite direction (R65; `d xor 1` on the codes, R67). -/
def opp : Dir → Dir
  | .front => .back
  | .back => .front
  | .top => .bottom
  | .bottom => .top
  | .left => .right
  | .right => .left

/-- The six directions in ascending code (42_mesher.md R143). -/
def all : List Dir := [.front, .back, .top, .bottom, .left, .right]

/-- `off(d,D)`, the index offset of the neighbour (30_encoding.md R65, 42_mesher.md R145). -/
def off (dir : Dir) (d : Nat) : Int :=
  match dir with
  | .front => (d : Int) ^ 2
  | .back => -(d : Int) ^ 2
  | .top => 1
  | .bottom => -1
  | .left => d
  | .right => -(d : Int)

/-- The stride of the tangent axis `T1` (42_mesher.md R152). -/
def stride1 (dir : Dir) (d : Nat) : Nat :=
  match dir with
  | .front => 1
  | .back => 1
  | .top => d
  | .bottom => d
  | .left => 1
  | .right => 1

/-- The stride of the tangent axis `T2` (42_mesher.md R152). -/
def stride2 (dir : Dir) (d : Nat) : Nat :=
  match dir with
  | .front => d
  | .back => d
  | .top => d ^ 2
  | .bottom => d ^ 2
  | .left => d ^ 2
  | .right => d ^ 2

end Sys2Proof.Dir

namespace Sys2Proof.Machine

/-- Does the mask say that a block covers its own side `d` (10_state.md R28, 30_encoding.md R66)? -/
def covers (m : Mask) (d : Dir) : Bool := m.getLsbD d.code

/-- `MaterialOf(t, d)`, the parameter of 42_mesher.md R158 (00_scope.md R5). -/
def materialOf (p : Params) (t : Byte) (d : Dir) : Byte := p.materials.getD (6 * t.toNat + d.code) 0

end Sys2Proof.Machine
end

