-- ==== Sys2Proof/Machine/Configure.lean ====
section
/-! DEFINITION. `CONFIG` and `BUILD_TABLE` (40_config_and_table.md). -/

namespace Sys2Proof.Machine

/-- `CONFIG dsel` (R90): `ERR_BAD_DIM` for `dsel` 0, 6, 7; `ERR_ALLOC` when `D² > SCRATCH_DEPTH` (R91); else the dimension,
`CONFIGURED`, and an empty result (R92). -/
def execConfig (dsel : BitVec 3) (s : State) : Outcome :=
  whileRunning s fun s =>
    if dsel.toNat < 1 ∨ 5 < dsel.toNat then raiseFault .badDim s
    else if s.params.scratchDepth < dimOf dsel * dimOf dsel then raiseFault .alloc s
    else .next (s.setConfigured dsel)

/-- `OCC_INIT[t]` for every `t < NTYPES`, each element from its own (R94). -/
def occInitTable (p : Params) : List Mask := (List.range p.nTypes).map fun t => p.occInit.getD t 0

/-- `BUILD_TABLE` (R93): `ERR_TABLE_REBUILT` when the table is built (R95); else the table and `TBL_BUILT`. -/
def execBuildTable (s : State) : Outcome :=
  whileRunning s fun s =>
    if s.tblBuilt then raiseFault .tableRebuilt s
    else .next (s.setTable (occInitTable s.params))

end Sys2Proof.Machine
end

