-- ==== Sys2Proof/Machine/Noise.lean ====
section
/-! DEFINITION. The generator's lookup table and its two noise functions (41_generator.md sections 2 to 4; log 13). -/

namespace Sys2Proof.Machine

/-- `PERM[k] = rotl8((2*k*k + k) mod 256, 3) xor 0xA5` (R116); `Byte` arithmetic is modulo 256. -/
def perm (k : Byte) : Byte := rotl8 (2 * k * k + k) 3 ^^^ 0xA5

/-- The 2D lattice hash `Hash2(s, a, b)` (R118). -/
def hash2 (s : Byte) (a b : Int) : Byte := perm (perm (perm s + lowByte a) + lowByte b)

/-- `w mod 2^F`, the fraction of a world coordinate inside its lattice square (R119). -/
def fraction (w : Word) (f : Nat) : Nat := (w.toInt % 2 ^ f).toNat

/-- The sum `v` of R120 before the final division: four lattice hashes weighted bilinearly, `0 .. 255*W*W`. -/
def heightBlend (s : Byte) (f : Nat) (wx wz : Word) : Nat :=
  let w := 2 ^ f
  let ix := asr wx f
  let fx := fraction wx f
  let iz := asr wz f
  let fz := fraction wz f
  let top := (hash2 s ix iz).toNat * (w - fx) + (hash2 s (ix + 1) iz).toNat * fx
  let bot := (hash2 s ix (iz + 1)).toNat * (w - fx) + (hash2 s (ix + 1) (iz + 1)).toNat * fx
  top * (w - fz) + bot * fz

/-- `HeightNoise(s, F, wx, wz)` (R120). -/
def heightNoise (s : Byte) (f : Nat) (wx wz : Word) : Byte :=
  BitVec.ofNat 8 (heightBlend s f wx wz / (2 ^ f * 2 ^ f))

/-- The 3D lattice hash `Hash3(s, a, b, c)` (R122). -/
def hash3 (s : Byte) (a b c : Int) : Byte :=
  perm (perm (perm (perm (s + 1) + lowByte a) + lowByte b) + lowByte c)

/-- `CaveNoise(s, G, wx, wy, wz)` (R123). -/
def caveNoise (s : Byte) (g : Nat) (wx wy wz : Word) : Byte := hash3 s (asr wx g) (asr wy g) (asr wz g)

end Sys2Proof.Machine
end

