-- ==== Sys2Proof/Machine/Generate.lean ====
section
/-! DEFINITION. `GENERATE` (41_generator.md). -/

namespace Sys2Proof.Machine

/-- `DIRT_DEPTH` (00_scope.md R5, 41_generator.md R125). -/
def dirtDepth : Int := 3

/-- A world coordinate: `wrap32(chunk coordinate * D + local coordinate)` (R114). -/
def worldCoord (chunk : Word) (d l : Nat) : Word := wrap32 (chunk.toInt * d + l)

/-- The terrain height of a column: `wrap32(HEIGHT_BASE + ((n * AMP) div 256))` (R121). -/
def height (s : State) (wx wz : Word) : Word :=
  wrap32 (s.heightBase.toInt + ((heightNoise (seedByte s.seed) (freqShift s) wx wz).toNat * amp s / 256 : Nat))

/-- Is a cell at this world coordinate carved once it is an interior solid cell (R124)? -/
def carved (s : State) (wx wy wz : Word) : Bool :=
  caveEn s && caveThr s < caveNoise (seedByte s.seed) (caveShift s) wx wy wz

/-- `depth = h - wy`, exact (R125). -/
def depth (h wy : Word) : Int := h.toInt - wy.toInt

/-- The layer of a cell below the height, before carving (R125). -/
def layer (depth : Int) : Byte :=
  if depth = 1 then BlockType.grass
  else if depth ≤ 1 + dirtDepth then BlockType.dirt
  else BlockType.stone

/-- `CellType(wx, wy, wz, h)` (R126). -/
def cellType (s : State) (wx wy wz h : Word) : Byte :=
  if ¬ wy.toInt < h.toInt then BlockType.air
  else if 2 ≤ depth h wy ∧ carved s wx wy wz then BlockType.caveAir
  else layer (depth h wy)

/-- Pass 1 (R112): the heights of the columns, `z` outer, `x` inner, that is in ascending `flatten2d`. -/
def columnHeights (s : State) (d : Nat) : List Word :=
  (List.range d).flatMap fun z => (List.range d).map fun x => height s (worldCoord s.cx d x) (worldCoord s.cz d z)

/-- Pass 2 (R113): the type of cell `i`, its height read from `SCRATCH`. -/
def cellAt (s : State) (d i : Nat) : Byte :=
  let (x, y, z) := unflatten3d i d
  cellType s (worldCoord s.cx d x) (worldCoord s.cy d y) (worldCoord s.cz d z) (scratchAt s (flatten2d x z d))

/-- Both passes (R110): every height into `SCRATCH`, then every cell into `GRID`. -/
def generated (s : State) : State :=
  let s1 := s.setScratchBlock (columnHeights s s.dim)
  s1.setGridBlock ((List.range s1.cellCount).map (cellAt s1 s1.dim))

/-- `GENERATE` (R110): `ERR_BAD_DIM` when no dimension is configured (R111), else both passes. -/
def execGenerate (s : State) : Outcome :=
  whileRunning s fun s =>
    if !s.configured then raiseFault .badDim s
    else .next (generated s)

end Sys2Proof.Machine
end

