-- ==== Sys2Proof/Machine/Record.lean ====
section
/-! DEFINITION. The face record (30_encoding.md R70 to R77): its fields, packing, unpacking, and a face buffer as bytes. -/

namespace Sys2Proof.Machine

/-- The seven fields of a face record (R70). -/
structure Face where
  posIndex : Nat
  faceDir : Nat
  ao0 : Nat
  ao1 : Nat
  ao2 : Nat
  ao3 : Nat
  materialId : Nat
  deriving DecidableEq, Repr

/-- The ranges `Pack` is defined on (R72), for position width `p`. -/
abbrev Face.legal (p : Nat) (f : Face) : Prop :=
  f.posIndex < 2 ^ p ∧ f.faceDir ≤ 5 ∧ f.ao0 ≤ 3 ∧ f.ao1 ≤ 3 ∧ f.ao2 ≤ 3 ∧ f.ao3 ≤ 3 ∧ f.materialId ≤ 255

/-- `Pack` (R72), with `p = POSW`. -/
def pack (p : Nat) (f : Face) : Nat :=
  f.posIndex + f.faceDir * 2 ^ p + f.ao0 * 2 ^ (p + 3) + f.ao1 * 2 ^ (p + 5) + f.ao2 * 2 ^ (p + 7)
    + f.ao3 * 2 ^ (p + 9) + f.materialId * 2 ^ (p + 11)

/-- `r[lo + n - 1 : lo]`. -/
def bitsOf (r lo n : Nat) : Nat := r / 2 ^ lo % 2 ^ n

/-- `Unpack` (R73). -/
def unpack (p r : Nat) : Face where
  posIndex := bitsOf r 0 p
  faceDir := bitsOf r p 3
  ao0 := bitsOf r (p + 3) 2
  ao1 := bitsOf r (p + 5) 2
  ao2 := bitsOf r (p + 7) 2
  ao3 := bitsOf r (p + 9) 2
  materialId := bitsOf r (p + 11) 8

/-- A record in its container of `CW` bits, zero-extended, little-endian (R76). -/
def recordBytes (dsel : BitVec 3) (r : Record) : List Byte := bytesLE (containerW dsel / 8) r.toNat

/-- The face buffer as it is copied to byte-addressed memory: record `k` at byte `k*CW/8` (R76). -/
def faceBufferBytes (s : State) : List Byte :=
  (List.range s.faceCount.toNat).flatMap fun k => recordBytes s.dsel (fbAt s k)

end Sys2Proof.Machine
end

