-- ==== Sys2Proof/Machine/Mesh.lean ====
section
/-! DEFINITION. `MESH` (42_mesher.md): the occlusion checker, the face visibility combiner, the record encoder, and the scan. -/

namespace Sys2Proof.Machine

/-! ## The occlusion checker (R145 to R149) -/

/-- The neighbour index of cell `i`, found by index arithmetic; it may leave the chunk (R145, R146). -/
def neighbour (s : State) (i : Nat) (d : Dir) : Int := i + d.off s.dim

/-- Is the index a cell of the chunk (R147)? -/
def inChunk (s : State) (j : Int) : Bool := 0 ≤ j && j < s.cellCount

/-- The mask of the cell at index `j` of the chunk. -/
def maskAt (s : State) (j : Int) : Mask := occAt s (gridAt s j.toNat).toNat

/-! ## The face visibility combiner (R150) -/

/-- Is face `d` of cell `i` emitted: cell solid, neighbour in range, neighbour not covering the side that points back? -/
def faceVisible (s : State) (i : Nat) (d : Dir) : Bool :=
  solid (gridAt s i) && inChunk s (neighbour s i d) && !covers (maskAt s (neighbour s i d)) d.opp

/-! ## Ambient occlusion (R152 to R156) -/

/-- `Occl(j, d)` (R155). -/
def occl (s : State) (j : Int) (d : Dir) : Nat :=
  if inChunk s j && solid (gridAt s j.toNat) && covers (maskAt s j) d.opp then 1 else 0

/-- The sign of corner bit `b`: `+1` if it is set, else `-1` (R153). -/
def cornerSign (c b : Nat) : Int := if c.testBit b then 1 else -1

/-- The three cells of corner `c`: `j1`, `j2`, `j3` (R154). -/
def cornerCells (s : State) (i : Nat) (d : Dir) (c : Nat) : Int × Int × Int :=
  let n := neighbour s i d
  let a := cornerSign c 0 * d.stride1 s.dim
  let b := cornerSign c 1 * d.stride2 s.dim
  (n + a, n + b, n + a + b)

/-- `AO(i,d,c)` (R156). -/
def aoLevel (s : State) (i : Nat) (d : Dir) (c : Nat) : Nat :=
  let (j1, j2, j3) := cornerCells s i d c
  min (occl s j1 d + occl s j2 d + occl s j3 d) 3

/-! ## The record encoder (R158 to R160) -/

/-- The fields of the record of face `d` of cell `i`. -/
def faceOf (s : State) (i : Nat) (d : Dir) : Face where
  posIndex := i
  faceDir := d.code
  ao0 := aoLevel s i d 0
  ao1 := aoLevel s i d 1
  ao2 := aoLevel s i d 2
  ao3 := aoLevel s i d 3
  materialId := (materialOf s.params (gridAt s i) d).toNat

/-- The record, in the variant `CONFIG` selected (R160, 30_encoding.md R75). -/
def recordOf (s : State) (i : Nat) (d : Dir) : Record := BitVec.ofNat 34 (pack (posW s.dsel) (faceOf s i d))

/-! ## The scan (R143, R144, R151) -/

/-- The faces of cell `i` that are emitted, in ascending direction code. -/
def cellFaces (s : State) (i : Nat) : List (Nat × Dir) :=
  (Dir.all.filter (faceVisible s i)).map fun d => (i, d)

/-- Every face that is emitted: ascending cell index, then ascending direction code (R143). -/
def visibleFaces (s : State) : List (Nat × Dir) := (List.range s.cellCount).flatMap (cellFaces s)

/-- The records in buffer order (R151). -/
def meshRecords (s : State) : List Record := (visibleFaces s).map fun f => recordOf s f.1 f.2

/-- Does a cell of the chunk hold an unregistered code (R142)? -/
def hasBadType (s : State) : Bool := (List.range s.cellCount).any fun i => s.params.nTypes ≤ (gridAt s i).toNat

/-- `isEmpty`: no cell of the chunk is solid (R144). -/
def meshEmpty (s : State) : Bool := (List.range s.cellCount).all fun i => !solid (gridAt s i)

/-- What a successful scan leaves (R161). -/
def meshed (s : State) : State :=
  s.setMesh (s.fb.writeBlock (meshRecords s)) (meshRecords s).length (meshEmpty s)

/-- `MESH` (R140): `ERR_BAD_DIM`, `ERR_TABLE_UNBUILT` (R141), `ERR_BAD_TYPE` (R142), in this order; else the scan. -/
def execMesh (s : State) : Outcome :=
  whileRunning s fun s =>
    if !s.configured then raiseFault .badDim s
    else if !s.tblBuilt then raiseFault .tableUnbuilt s
    else if hasBadType s then raiseBadType s
    else .next (meshed s)

end Sys2Proof.Machine
end

