-- ==== Sys2Proof/Machine/Dispatch.lean ====
section
/-! DEFINITION. One arm per command (spec/opcode_table.json). -/

namespace Sys2Proof.Machine

def exec (i : Instr) (s : State) : Host.Outcome State Fault Refusal :=
  match i with
  | .config dsel => Sys2Proof.Machine.execConfig dsel s
  | .buildTable => Sys2Proof.Machine.execBuildTable s
  | .generate => Sys2Proof.Machine.execGenerate s
  | .mesh => Sys2Proof.Machine.execMesh s

end Sys2Proof.Machine
end

