-- ==== Sys2Proof/Machine/HostPort.lean ====
section
/-! DEFINITION. What one event from outside does (20_memory.md R42, R43; 70_reset_and_hazards.md R210). -/

namespace Sys2Proof.Machine

/-- A host write of `w` to `CMD` (10_state.md R19): the command it encodes runs; a word that is no command raises
`ERR_BAD_CMD` (30_encoding.md R63). Both do nothing while `FAULT = 1` (60_exceptions.md R184, R186; log 12). -/
def issue (w : Word) (s : State) : Outcome :=
  match decode w with
  | .ok i => exec i s
  | .error _ => whileRunning s (raiseFault .badCmd)

/-- A host write to a register. -/
def hostWrite (r : Reg) (v : Word) (s : State) : Outcome :=
  match r with
  | .cmd => issue v s
  | r => .next (writeReg s v r)

/-- One transaction of the host (20_memory.md R42); outside the map, a refusal (R43). -/
def transact (t : Transaction) (s : State) : Outcome :=
  match t with
  | .writeReg off v =>
    match regOfOffset off with
    | some r => hostWrite r v s
    | none => .refused .outsideMap
  | .readReg off =>
    match regOfOffset off with
    | some r => .next (s.setReply (.reg (readReg s r)))
    | none => .refused .outsideMap
  | .writeGrid i t => if i < Config.gridDepth then .next (s.setGridCell i t) else .refused .outsideMap
  | .readGrid i => if i < Config.gridDepth then .next (s.setReply (.grid (gridAt s i))) else .refused .outsideMap
  | .readOcc t => if t < s.params.nTypes then .next (s.setReply (.occ (occAt s t))) else .refused .outsideMap
  | .readFb k => if k < Config.fbDepth then .next (s.setReply (.fb (fbAt s k))) else .refused .outsideMap

/-- One event from outside. -/
def perform (e : HostEvent) (s : State) : Outcome :=
  match e with
  | .txn t => transact t s
  | .reset => .next (resetEvent s)

end Sys2Proof.Machine
end

