-- ==== Sys2Proof/Machine/Step.lean ====
section
/-! DEFINITION. One step: the next event from outside takes its whole effect (20_memory.md R54). -/

namespace Sys2Proof.Machine

/-- The next event is taken from the input and performed, a command from start to end (10_state.md R10). With nothing to do
the machine is idle and keeps all state (60_exceptions.md R192; log 2). -/
def step (s : State) : Host.Outcome State Fault Refusal :=
  match s.pending with
  | [] => .next s
  | e :: rest => perform e (s.consume rest)

/-- `s` with the command of `w` (an instruction of spec/opcode_table.json of `nbits` bits, every bit above them 0) as the
host's next write to `CMD`: the VCM fetches nothing, a command arrives with that write (10_state.md R14; log 1). -/
def State.withFetchWord (s : State) (nbits w : Nat) : State :=
  { s with pending := .txn (.writeReg 0x00 (BitVec.ofNat 32 (w % 2 ^ nbits))) :: s.pending }

end Sys2Proof.Machine
end

