-- ==== Sys2Proof/Machine/Script.lean ====
section
/-! DEFINITION. The host-script notation (30_encoding.md R78, R79): its lines, their text, and the transactions they stand for. -/

namespace Sys2Proof.Machine

/-- A line or pseudo-line of a host script (R78, R79). -/
inductive ScriptLine where
  | config (d : Nat)
  | configRaw (n : Nat)
  | buildTable
  | generate
  | mesh
  | cmd (w : Nat)
  | wr (r : Reg) (v : Int)
  | rd (r : Reg)
  | wrg (i t : Nat)
  | rdg (i : Nat)
  | rdo (t : Nat)
  | rdf (k : Nat)
  | setchunk (cx cy cz : Int)
  | setnoise (fs a : Nat)
  | setcave (en sh thr : Nat)
  | fillg (lo hi t : Nat)
  | wrc (x y z t : Nat)
  | genmesh
  deriving DecidableEq, Repr

/-- Does a number fit a 32-bit register, a negative one as its `s32` (R78)? -/
def fitsWord (v : Int) : Bool := -2 ^ 31 ≤ v && v < 2 ^ 32

/-- The ranges R78 and R79 give the operands of a line; `d` is the operand of the last `config` line, 0 before one. -/
def ScriptLine.wellFormed (d : Nat) : ScriptLine → Bool
  | .config n => [2, 4, 8, 16, 32].contains n
  | .configRaw n => n ≤ 7
  | .buildTable => true
  | .generate => true
  | .mesh => true
  | .cmd w => w < 2 ^ 32
  | .wr _ v => fitsWord v
  | .rd _ => true
  | .wrg _ t => t < 256
  | .rdg _ => true
  | .rdo _ => true
  | .rdf _ => true
  | .setchunk cx cy cz => fitsWord cx && fitsWord cy && fitsWord cz
  | .setnoise fs a => fs ≤ 7 && a ≤ 65535
  | .setcave en sh thr => en ≤ 1 && sh ≤ 7 && thr ≤ 255
  | .fillg _ _ t => t < 256
  | .wrc x y z t => x < d && y < d && z < d && t < 256
  | .genmesh => true

/-- The write of a command word. -/
def writeCmd (w : Nat) : Transaction := .writeReg 0x00 (BitVec.ofNat 32 w)

/-- The write of a number to a named register. -/
def writeNamed (r : Reg) (v : Int) : Transaction := .writeReg (offsetOf r) (wrap32 v)

/-- The transactions of a line (R78, R79), `d` the operand of the last `config` line. DESIGN CHOICE (log 15): R79 gives no
meaning to `fillg lo, hi, t` with `lo > hi`, and here it stands for no transaction. -/
def ScriptLine.expand (d : Nat) : ScriptLine → List Transaction
  | .config n => [writeCmd (0x01 + 16 * n.log2)]
  | .configRaw n => [writeCmd (0x01 + 16 * n)]
  | .buildTable => [writeCmd 0x02]
  | .generate => [writeCmd 0x03]
  | .mesh => [writeCmd 0x04]
  | .cmd w => [writeCmd w]
  | .wr r v => [writeNamed r v]
  | .rd r => [.readReg (offsetOf r)]
  | .wrg i t => [.writeGrid i (BitVec.ofNat 8 t)]
  | .rdg i => [.readGrid i]
  | .rdo t => [.readOcc t]
  | .rdf k => [.readFb k]
  | .setchunk cx cy cz => [writeNamed .cx cx, writeNamed .cy cy, writeNamed .cz cz]
  | .setnoise fs a => [writeNamed .noiseCfg (a * 65536 + fs)]
  | .setcave en sh thr => [writeNamed .caveCfg (thr * 256 + sh * 16 + en)]
  | .fillg lo hi t => (List.range (hi + 1 - lo)).map fun k => .writeGrid (lo + k) (BitVec.ofNat 8 t)
  | .wrc x y z t => [.writeGrid (flatten3d x y z d) (BitVec.ofNat 8 t)]
  | .genmesh => [writeCmd 0x03, writeCmd 0x04]

/-- The operand of the last `config` line once `l` is read. -/
def ScriptLine.nextDim (d : Nat) : ScriptLine → Nat
  | .config n => n
  | _ => d

/-- The transactions of a script, top to bottom (R78); none if a line is out of range. -/
def expandScript (d : Nat) : List ScriptLine → Option (List Transaction)
  | [] => some []
  | l :: rest =>
    if l.wellFormed d then (expandScript (l.nextDim d) rest).map (l.expand d ++ ·) else none

/-! ## The text of a line (R78; log 15) -/

/-- The text before a comment. -/
def withoutComment (cs : List Char) : List Char := cs.takeWhile (· != ';')

/-- The words of a line, `acc` the word being read, reversed; a space, a tab, a comma or a carriage return ends a word. -/
def wordsOf (acc : List Char) : List Char → List String
  | [] => if acc.isEmpty then [] else [String.ofList acc.reverse]
  | c :: cs =>
    if [' ', '\t', ',', '\r'].contains c then
      if acc.isEmpty then wordsOf [] cs else String.ofList acc.reverse :: wordsOf [] cs
    else wordsOf (c :: acc) cs

/-- The value of a digit, hexadecimal letters of either case. -/
def digitOf (c : Char) : Option Nat :=
  if '0' ≤ c ∧ c ≤ '9' then some (c.toNat - '0'.toNat)
  else if 'a' ≤ c ∧ c ≤ 'f' then some (c.toNat - 'a'.toNat + 10)
  else if 'A' ≤ c ∧ c ≤ 'F' then some (c.toNat - 'A'.toNat + 10)
  else none

/-- The number of a run of digits in a base, `acc` the digits before it. -/
def digitsFrom (base acc : Nat) : List Char → Option Nat
  | [] => some acc
  | c :: cs =>
    match digitOf c with
    | some n => if n < base then digitsFrom base (acc * base + n) cs else none
    | none => none

/-- A number without a sign: decimal, or hexadecimal with `0x` (R78). -/
def natOfChars : List Char → Option Nat
  | '0' :: 'x' :: c :: cs => digitsFrom 16 0 (c :: cs)
  | c :: cs => digitsFrom 10 0 (c :: cs)
  | [] => none

/-- A number, a negative one written with `-` (R78). -/
def intOfWord (w : String) : Option Int :=
  match w.toList with
  | '-' :: cs => (natOfChars cs).map fun n => -(n : Int)
  | cs => (natOfChars cs).map fun n => (n : Int)

/-- A number without a sign. -/
def natOfWord (w : String) : Option Nat := natOfChars w.toList

/-- A register by its name in 20_memory.md R41. -/
def regOfWord : String → Option Reg
  | "CMD" => some .cmd
  | "STATUS" => some .status
  | "DIM" => some .dim
  | "FACE_COUNT" => some .faceCount
  | "CX" => some .cx
  | "CY" => some .cy
  | "CZ" => some .cz
  | "SEED" => some .seed
  | "NOISE_CFG" => some .noiseCfg
  | "HEIGHT_BASE" => some .heightBase
  | "CAVE_CFG" => some .caveCfg
  | _ => none

/-- A block type: a name of 10_state.md R25 or a number. -/
def typeOfWord : String → Option Nat
  | "AIR" => some 0
  | "CAVE_AIR" => some 1
  | "STONE" => some 2
  | "DIRT" => some 3
  | "GRASS" => some 4
  | w => natOfWord w

/-- A line by its words (R78, R79). -/
def lineOfWords : List String → Option ScriptLine
  | ["config", d] => (natOfWord d).map .config
  | ["config.raw", n] => (natOfWord n).map .configRaw
  | ["build_table"] => some .buildTable
  | ["generate"] => some .generate
  | ["mesh"] => some .mesh
  | ["cmd", w] => (natOfWord w).map .cmd
  | ["wr", r, v] => do return .wr (← regOfWord r) (← intOfWord v)
  | ["rd", r] => (regOfWord r).map .rd
  | ["wrg", i, t] => do return .wrg (← natOfWord i) (← typeOfWord t)
  | ["rdg", i] => (natOfWord i).map .rdg
  | ["rdo", t] => (typeOfWord t).map .rdo
  | ["rdf", k] => (natOfWord k).map .rdf
  | ["setchunk", x, y, z] => do return .setchunk (← intOfWord x) (← intOfWord y) (← intOfWord z)
  | ["setnoise", f, a] => do return .setnoise (← natOfWord f) (← natOfWord a)
  | ["setcave", e, g, t] => do return .setcave (← natOfWord e) (← natOfWord g) (← natOfWord t)
  | ["fillg", lo, hi, t] => do return .fillg (← natOfWord lo) (← natOfWord hi) (← typeOfWord t)
  | ["wrc", x, y, z, t] => do return .wrc (← natOfWord x) (← natOfWord y) (← natOfWord z) (← typeOfWord t)
  | ["genmesh"] => some .genmesh
  | _ => none

/-- The lines of a text, `acc` the line being read, reversed. -/
def linesOf (acc : List Char) : List Char → List (List Char)
  | [] => [acc.reverse]
  | c :: cs => if c = '\n' then acc.reverse :: linesOf [] cs else linesOf (c :: acc) cs

/-- A script from its text: a line of nothing but a comment or blanks stands for no transaction. -/
def scriptOfText (text : String) : Option (List ScriptLine) :=
  (((linesOf [] text.toList).map fun l => wordsOf [] (withoutComment l)).filter (!·.isEmpty)).mapM lineOfWords

/-- A state with the transactions of a script still to come, after those already pending. -/
def State.load (s : State) (ts : List Transaction) : State := { s with pending := s.pending ++ ts.map .txn }

end Sys2Proof.Machine
end

