-- ==== Sys2Proof/WellFormed.lean ====
section
/-! DEFINITION. What the host may ask and what an implementation may fix. An `Instr` needs no check: its one operand is a
3-bit vector, and every value of it is an encoding (30_encoding.md R60, R61). -/

namespace Sys2Proof

/-- The constraints of 00_scope.md R5 and 10_state.md R27 on the OPEN parameters, checked when the model is instantiated and
not by the machine (R27): `5 <= NTYPES <= 256`; one mask per type, all-false for air and cave-air and for no other type; one
material per type and direction; `SCRATCH_DEPTH >= 4`. -/
def Params.wellFormed (p : Params) : Bool :=
  5 ≤ p.nTypes && p.nTypes ≤ 256
    && p.occInit.length == p.nTypes
    && p.occInit.take 2 == [0, 0] && (p.occInit.drop 2).all (· != 0)
    && p.materials.length == 6 * p.nTypes
    && 4 ≤ p.scratchDepth

/-- The ranges of 20_memory.md R42: the offset is one of the eleven of R41, a grid index is below 32768, a face-buffer index
below 196608, an occlusion-table index below `NTYPES`. -/
def Transaction.wellFormed (p : Params) : Transaction → Bool
  | .writeReg off _ => off % 4 == 0 && off ≤ 0x28
  | .readReg off => off % 4 == 0 && off ≤ 0x28
  | .writeGrid i _ => i < Config.gridDepth
  | .readGrid i => i < Config.gridDepth
  | .readOcc t => t < p.nTypes
  | .readFb k => k < Config.fbDepth

/-- Reset is always possible; a transaction must be in range. -/
def HostEvent.wellFormed (p : Params) : HostEvent → Bool
  | .txn t => t.wellFormed p
  | .reset => true

end Sys2Proof
end

