-- ==== Sys2Proof/Machine/System.lean ====
section
/-! DEFINITION. Several instances side by side (60_exceptions.md R200 to R202; log 10). -/

namespace Sys2Proof.Machine

/-- `NINST` instances, each with all the state of 10_state.md for itself (R200). DESIGN CHOICE (log 18): the families of free
values are not kept apart by instance, so where the family numbers of two instances coincide (two at `State.reset`) their
unspecified contents agree, though the spec leaves them arbitrary for each; no statement may rest on that agreement. -/
structure System where
  instances : List State
  deriving DecidableEq, Repr

/-- `NINST >= 1`, and every instance has the same parameters (R200, R202: one `OCC_INIT` for all). It asks nothing of the
families of free values, which two instances may share (log 18). -/
def System.wellFormed (sys : System) : Bool :=
  match sys.instances with
  | [] => false
  | s :: rest => s.params.wellFormed && rest.all (·.params == s.params)

/-- Instance `k` takes a step; the others are not reached (R200). -/
def System.stepAt (sys : System) (k : Fin sys.instances.length) : Host.Outcome System Fault Refusal :=
  match step (sys.instances.get k) with
  | .next t => .next ⟨sys.instances.set k t⟩
  | .fault r => .fault r
  | .refused r => .refused r

end Sys2Proof.Machine
end

