-- ==== Sys2Proof/Safety.lean ====
section
/-! DEFINITION. The terms the claims use: what a step gave, and the invariant of a machine that started at reset. -/

namespace Sys2Proof.Machine

/-- The state a step gave, if it gave one. -/
def nextState : Outcome → Option State
  | .next s => some s
  | .fault _ => none
  | .refused _ => none

/-- What holds at reset and after every step from it. -/
structure State.Inv (s : State) : Prop where
  /-- The parameters meet 00_scope.md R5 and 10_state.md R27. -/
  params_wf : s.params.wellFormed = true
  /-- `GRID` is canonical and lists only its own elements (20_memory.md R40). -/
  grid_wf : s.grid.wf ∧ s.grid.within Config.gridDepth
  /-- `SCRATCH` is canonical and lists only its own elements (20_memory.md R40). -/
  scratch_wf : s.scratch.wf ∧ s.scratch.within s.params.scratchDepth
  /-- `FB` is canonical and lists only its own elements (20_memory.md R40). -/
  fb_wf : s.fb.wf ∧ s.fb.within Config.fbDepth
  /-- `DSEL` never holds 6 or 7 (10_state.md R17). -/
  dsel_le : s.dsel.toNat ≤ 5
  /-- `CONFIGURED` is 1 exactly while a dimension is held (10_state.md R16, R17). -/
  configured_iff : s.configured = true ↔ s.dsel ≠ 0
  /-- A configured dimension fits the scratch memory (40_config_and_table.md R91). -/
  scratch_fits : s.configured = true → s.dim * s.dim ≤ s.params.scratchDepth
  /-- `OCC` is all-false before the build and `OCC_INIT` after it (10_state.md R22, R31). -/
  table : s.occ = if s.tblBuilt then occInitTable s.params else List.replicate s.params.nTypes 0
  /-- `ERR` is 0 exactly while `FAULT = 0` (10_state.md R16). -/
  fault_iff : s.fault = true ↔ s.err ≠ 0
  /-- Codes 7 to 15 are never held (60_exceptions.md R181). -/
  err_le : s.err.toNat ≤ 6
  /-- The reserved bits of `NOISE_CFG` are 0 (10_state.md R12). -/
  noise_bits : s.noiseCfg &&& noiseCfgBits = s.noiseCfg
  /-- The reserved bits of `CAVE_CFG` are 0 (10_state.md R13). -/
  cave_bits : s.caveCfg &&& caveCfgBits = s.caveCfg
  /-- Unless `ERR_BAD_TYPE` lost them, the results are those of a mesh: the source's bound on the count (10_state.md R18), no
  record in an empty chunk (42_mesher.md R161), and every record within the record width (42_mesher.md R160). -/
  results : s.err ≠ ErrCode.badType.code →
    s.faceCount.toNat ≤ 6 * s.cellCount ∧ (s.isEmpty = true → s.faceCount = 0) ∧
    ∀ k < s.faceCount.toNat, (fbAt s k).toNat < 2 ^ recW s.dsel
  /-- The families of free values in use are used (log 7). -/
  tags : s.grid.tag < s.nextFree ∧ s.scratch.tag < s.nextFree ∧ s.fb.tag < s.nextFree

end Sys2Proof.Machine
end

