-- ==== Sys2Proof/Certificates/Slice0/Obligations.lean ====
section
/-! DEFINITION. The statements for the provers. Each docstring names the rules of spec/ it formalises; "log n" is
notes/assumptions/n.md. A statement that rests on the model's own fields (`pending`, `reply`) says so by naming log 1 or log 3. -/

open Sys2Proof Sys2Proof.Machine

/-! ## The command word (30_encoding.md) -/

/-- Sanity: the words R61 writes out decode to their commands, `0x01`, `0x61` and `0x71` included (they fault in execution,
not in decoding), also through the byte decoder. -/
def Obligations.WrittenOutWordsDecode : Prop :=
  decode 0x11 = .ok (.config 1) ∧ decode 0x21 = .ok (.config 2) ∧ decode 0x31 = .ok (.config 3) ∧
  decode 0x41 = .ok (.config 4) ∧ decode 0x51 = .ok (.config 5) ∧
  decode 0x01 = .ok (.config 0) ∧ decode 0x61 = .ok (.config 6) ∧ decode 0x71 = .ok (.config 7) ∧
  decode 0x02 = .ok .buildTable ∧ decode 0x03 = .ok .generate ∧ decode 0x04 = .ok .mesh ∧
  decodeTableWord 32 0x51 = some (.config 5) ∧ decodeTableWord 32 0x04 = some .mesh ∧
  decodeTableWord 32 0x12 = none

/-- R60, R61: a word decodes to an instruction exactly when it is that instruction's encoding; so decoding inverts encoding
and no word has two readings. The same through the bytes of a little-endian bus (20_memory.md R49), whatever follows them. -/
def Obligations.DecodeInvertsEncodeBothWays : Prop :=
  (∀ (w : Word) (i : Instr), decode w = .ok i ↔ w = encode i) ∧
  (∀ (i : Instr) (rest : List Byte), decodeBytes (encodeBytes i ++ rest) = .ok (i, rest)) ∧
  (∀ i : Instr, decodeTableWord 32 (encode i).toNat = some i)

/-- R61: "A word w decodes to a command exactly when (w & mask) = match for one row; the rows are disjoint", each row with
its own command, `dsel` being bits 6:4 as they stand (R60). -/
def Obligations.AWordDecodesByExactlyOneRow : Prop :=
  ∀ w : Word,
    (∀ d : BitVec 3, decode w = .ok (.config d) ↔ w &&& 0xFFFFFF8F = 0x00000001 ∧ d.toNat = w.toNat / 16 % 8) ∧
    (decode w = .ok .buildTable ↔ w &&& 0xFFFFFFFF = 0x00000002) ∧
    (decode w = .ok .generate ↔ w &&& 0xFFFFFFFF = 0x00000003) ∧
    (decode w = .ok .mesh ↔ w &&& 0xFFFFFFFF = 0x00000004) ∧
    ((∃ i, decode w = .ok i) ↔ (opcodeRows.filter fun r => (w &&& r.mask) == r.value).length = 1) ∧
    (opcodeRows.filter fun r => (w &&& r.mask) == r.value).length ≤ 1

/-- R63: the illegal words are exactly those the rule lists, and writing one to `REG.CMD` raises `ERR_BAD_CMD` (code 1) and
changes nothing else (the host's request is consumed, log 1, log 3). -/
def Obligations.IllegalWordsAreRefusedByDecodingAndFault : Prop :=
  (∀ w : Word, (∃ e, decode w = .error e) ↔
    (w.toNat % 16 = 0 ∨ 5 ≤ w.toNat % 16 ∨ w.toNat / 128 ≠ 0 ∨
      ((w.toNat % 16 = 2 ∨ w.toNat % 16 = 3 ∨ w.toNat % 16 = 4) ∧ w.toNat / 16 % 8 ≠ 0))) ∧
  (∀ (s : State) (w : Word) (e : IllegalWord) (rest : List HostEvent),
    s.pending = .txn (.writeReg 0x00 w) :: rest → decode w = .error e → s.fault = false →
    step s = .next { s with pending := rest, reply := none, fault := true, err := 1 })

/-! ## The host port (10_state.md, 20_memory.md, 60_exceptions.md) -/

/-- R14, R19: a step whose next event is a host write of a command's word to `REG.CMD` runs that command, with the request
consumed (log 1, log 3) and nothing added; the same from `withFetchWord`. -/
def Obligations.AStepRunsTheDecodedCommand : Prop :=
  (∀ (s : State) (w : Word) (rest : List HostEvent) (i : Instr),
    s.pending = .txn (.writeReg 0x00 w) :: rest → decode w = .ok i →
    step s = exec i { s with pending := rest, reply := none }) ∧
  (∀ (s : State) (i : Instr), step (s.withFetchWord 32 (encode i).toNat) = exec i { s with reply := none })

/-- R184: while `FAULT = 1` every write to `REG.CMD` is ignored, whatever the word; every other transaction does what it does
with `FAULT = 0` (a read of `STATUS` returning the faulted word); and no command and no host write clears `FAULT`. -/
def Obligations.AHaltedInstanceIgnoresCommandsAndServesTheHost : Prop :=
  ∀ s : State, s.fault = true →
    (∀ (w : Word) (rest : List HostEvent), s.pending = .txn (.writeReg 0x00 w) :: rest →
      step s = .next { s with pending := rest, reply := none }) ∧
    (∀ (x : Transaction) (rest : List HostEvent) (u : State), s.pending = .txn x :: rest →
      (∀ w, x ≠ .writeReg 0x00 w) → step { s with fault := false, err := 0 } = .next u →
      step s = .next { u with
        fault := true
        err := s.err
        reply := if x = .readReg 0x04 then some (.reg (statusWord s)) else u.reply }) ∧
    (∀ (x : Transaction) (rest : List HostEvent) (t : State), s.pending = .txn x :: rest →
      step s = .next t → t.fault = true ∧ t.err = s.err)

/-- R11 to R13: each of the seven operand registers, at its offset, reads back what was written in the bits that exist (the
reserved bits of `NOISE_CFG` and `CAVE_CFG` read 0); every other register, every memory and the parameters are unchanged. -/
def Obligations.OperandRegistersReadBackWhatWasWritten : Prop :=
  ∀ (s : State) (v : Word) (rest : List HostEvent) (off : Nat) (r : Reg) (m : Word),
    (off, r, m) ∈ ([(0x10, .cx, 0xFFFFFFFF), (0x14, .cy, 0xFFFFFFFF), (0x18, .cz, 0xFFFFFFFF),
      (0x1C, .seed, 0xFFFFFFFF), (0x20, .noiseCfg, 0xFFFF0007), (0x24, .heightBase, 0xFFFFFFFF),
      (0x28, .caveCfg, 0x0000FF71)] : List (Nat × Reg × Word)) →
    s.pending = .txn (.writeReg off v) :: .txn (.readReg off) :: rest →
    ∃ t u, step s = .next t ∧ step t = .next u ∧ u.reply = some (.reg (v &&& m)) ∧ u.pending = rest ∧
      readReg u r = v &&& m ∧ (∀ r', r' ≠ r → readReg u r' = readReg s r') ∧
      u.grid = s.grid ∧ u.occ = s.occ ∧ u.scratch = s.scratch ∧ u.fb = s.fb ∧ u.params = s.params

/-- R20: a write to a read-only register and a read of `CMD` have no effect on any state and raise no fault (the read returns
0); reserved bits read as 0 (input and returned value: log 1, log 3). An offset that is not a multiple of 4 is refused: that
there is such a request at all, and its refusal by name, are the model's (log 8; R43 and R46 only give it no meaning). -/
def Obligations.ReadOnlyAndWriteOnlyRegistersHaveNoEffect : Prop :=
  (∀ (s : State) (off : Nat) (v : Word) (rest : List HostEvent), off = 0x04 ∨ off = 0x08 ∨ off = 0x0C →
    s.pending = .txn (.writeReg off v) :: rest → step s = .next { s with pending := rest, reply := none }) ∧
  (∀ (s : State) (rest : List HostEvent), s.pending = .txn (.readReg 0x00) :: rest →
    step s = .next { s with pending := rest, reply := some (.reg 0) }) ∧
  (∀ s : State, s.Inv →
    readReg s .status &&& 0xFFFFFF00 = 0 ∧ readReg s .dim &&& 0xC0F0C0F8 = 0 ∧
    readReg s .faceCount &&& 0xFFFC0000 = 0 ∧ readReg s .noiseCfg &&& 0x0000FFF8 = 0 ∧
    readReg s .caveCfg &&& 0xFFFF008E = 0) ∧
  (∀ (s : State) (off : Nat) (v : Word) (rest : List HostEvent), off % 4 ≠ 0 →
    s.pending = .txn (.writeReg off v) :: rest ∨ s.pending = .txn (.readReg off) :: rest →
    step s = .refused .outsideMap)

/-- R16 to R18: the fields of `STATUS`, of `DIM` for a held `DSEL` (the invariant's range) and of `FACE_COUNT`, at their
bits. -/
def Obligations.StatusDimAndFaceCountHoldTheirFields : Prop :=
  ∀ s : State,
    ((statusWord s).getLsbD 0 = s.fault ∧ (statusWord s).getLsbD 1 = s.configured ∧
      (statusWord s).getLsbD 2 = s.tblBuilt ∧ (statusWord s).getLsbD 3 = s.isEmpty ∧
      (statusWord s).toNat / 16 = s.err.toNat) ∧
    (s.dsel = 0 → dimWord s = 0) ∧
    (1 ≤ s.dsel.toNat → s.dsel.toNat ≤ 5 →
      (dimWord s).toNat = s.dsel.toNat + 2 ^ s.dsel.toNat * 2 ^ 8 + 3 * s.dsel.toNat * 2 ^ 16
        + (3 * s.dsel.toNat + 19) * 2 ^ 24) ∧
    (faceCountWord s).toNat = s.faceCount.toNat

/-- R42, rows 3 to 6: the grid, table and face-buffer transactions in range. A grid write reaches exactly its element; a
read returns its element and changes nothing but the returned value (log 1, log 3). -/
def Obligations.MemoryTransactionsReachExactlyTheirElement : Prop :=
  ∀ (s : State) (rest : List HostEvent),
    (∀ (i : Nat) (v : Byte), i < 32768 → s.pending = .txn (.writeGrid i v) :: rest →
      ∃ t, step s = .next t ∧ (∀ j, gridAt t j = if j = i then v else gridAt s j) ∧
        t = { s with pending := rest, reply := none, grid := t.grid }) ∧
    (∀ i, i < 32768 → s.pending = .txn (.readGrid i) :: rest →
      step s = .next { s with pending := rest, reply := some (.grid (gridAt s i)) }) ∧
    (∀ k, k < s.params.nTypes → s.pending = .txn (.readOcc k) :: rest →
      step s = .next { s with pending := rest, reply := some (.occ (occAt s k)) }) ∧
    (∀ k, k < 196608 → s.pending = .txn (.readFb k) :: rest →
      step s = .next { s with pending := rest, reply := some (.fb (fbAt s k)) })

/-- R50: "Every read is idempotent: no read changes state": a read transaction that answers leaves everything but the input and
the returned value (log 1, log 3), and the same read again returns the same value. -/
def Obligations.ReadsAreIdempotentAndChangeNoState : Prop :=
  ∀ (s t : State) (x : Transaction) (rest : List HostEvent),
    (∃ a, x = .readReg a ∨ x = .readGrid a ∨ x = .readOcc a ∨ x = .readFb a) →
    s.pending = .txn x :: .txn x :: rest → step s = .next t →
    t = { s with pending := .txn x :: rest, reply := t.reply } ∧
    step t = .next { s with pending := rest, reply := t.reply }

/-- R50: "Every write of the same value twice leaves the same state as writing it once, except a write to `CMD`", as data: the
second of two equal writes of a register other than `CMD`, or of a grid element, changes only the input (log 1). -/
def Obligations.RepeatingAWriteChangesNothingMore : Prop :=
  ∀ (s t : State) (x : Transaction) (rest : List HostEvent),
    (∃ off v, off ≠ 0x00 ∧ x = .writeReg off v) ∨ (∃ i v, x = .writeGrid i v) →
    s.pending = .txn x :: .txn x :: rest → step s = .next t → step t = .next { t with pending := rest }

/-- R180, R186: a fault is raised by a host write to `REG.CMD` and by nothing else, and its code is `ERR_BAD_CMD` exactly when
the word decodes to no command. -/
def Obligations.OnlyACommandWriteRaisesAFault : Prop :=
  ∀ s t : State, step s = .next t → s.fault = false → t.fault = true →
    ∃ (w : Word) (rest : List HostEvent), s.pending = .txn (.writeReg 0x00 w) :: rest ∧
      ((∃ e, decode w = .error e) ↔ t.err = 1)

/-- R43: a request outside the ranges of R42 is refused, under its own name, and only such a request is: every other step
gives a next state. -/
def Obligations.ExactlyTheRequestsOutsideTheMapAreRefused : Prop :=
  ∀ s : State,
    ((∃ r, step s = .refused r) ↔ ∃ e rest, s.pending = e :: rest ∧ e.wellFormed s.params = false) ∧
    (∀ r, step s = .refused r → r = .outsideMap) ∧
    ((∀ e rest, s.pending = e :: rest → e.wellFormed s.params = true) → ∃ t, step s = .next t)

/-- R192: an idle VCM keeps all state (that a step with nothing asked of it is the idle machine is the model's, log 2). -/
def Obligations.AnIdleInstanceKeepsAllState : Prop :=
  ∀ s : State, s.pending = [] → step s = .next s

/-- R54, for the elements of `GRID` and the host: a read returns the value of the latest earlier host write to that element,
whatever host transactions in range lie between that do not write the element and issue no `GENERATE` (log 1, log 3). Nothing
is said of a `GENERATE` between them, not even of one that does not reach the element. -/
def Obligations.AGridReadReturnsTheLatestWrite : Prop :=
  ∀ (s : State) (i : Nat) (v : Byte) (xs : List Transaction) (rest : List HostEvent),
    i < 32768 →
    (∀ x ∈ xs, x.wellFormed s.params = true ∧ (∀ u, x ≠ .writeGrid i u) ∧
      (∀ w, x = .writeReg 0x00 w → decode w ≠ .ok .generate)) →
    s.pending = (.txn (.writeGrid i v) :: xs.map .txn) ++ (.txn (.readGrid i) :: rest) →
    ∃ t, Sys2Proof.core.run (xs.length + 2) s = .next t ∧ t.reply = some (.grid v) ∧ t.pending = rest

/-! ## Reset and the whole machine (10_state.md R31, R32, 60_exceptions.md, 70_reset_and_hazards.md) -/

/-- R211 (values of R32): after reset all flags are 0 but `IS_EMPTY`, `DSEL`, `FACE_COUNT` and the operand registers are 0,
`OCC` is all-false; nothing is said of `GRID`, `SCRATCH`, `FB`. The parameters and the events to come stay (log 4, log 9). -/
def Obligations.ResetGivesTheResetValues : Prop :=
  ∀ (s : State) (rest : List HostEvent), s.pending = .reset :: rest →
    ∃ t, step s = .next t ∧ t.fault = false ∧ t.configured = false ∧ t.tblBuilt = false ∧ t.isEmpty = true ∧
      t.err = 0 ∧ t.dsel = 0 ∧ t.faceCount = 0 ∧ t.cx = 0 ∧ t.cy = 0 ∧ t.cz = 0 ∧ t.seed = 0 ∧ t.noiseCfg = 0 ∧
      t.heightBase = 0 ∧ t.caveCfg = 0 ∧ t.occ.length = s.params.nTypes ∧ (∀ k, k < s.params.nTypes → occAt t k = 0) ∧
      t.params = s.params ∧ t.pending = rest ∧ readReg t .status = 0x00000008 ∧ readReg t .dim = 0

/-- R214: all three control flags only rise between resets, and once `FAULT = 1` the triple is frozen; so of a machine whose
next event is no reset nothing lowers a flag. -/
def Obligations.ControlFlagsOnlyRiseBetweenResets : Prop :=
  ∀ s t : State, step s = .next t → (∀ rest, s.pending ≠ .reset :: rest) →
    (s.fault = true → t.fault = true) ∧ (s.configured = true → t.configured = true) ∧
    (s.tblBuilt = true → t.tblBuilt = true) ∧
    (s.fault = true → t.configured = s.configured ∧ t.tblBuilt = s.tblBuilt ∧ t.err = s.err)

/-- The invariant of Safety.lean holds right after reset, for every legal choice of the parameters, and of `State.reset`. -/
def Obligations.TheInvariantHoldsAtReset : Prop :=
  (∀ (p : Params) (tag : Nat) (events : List HostEvent), p.wellFormed = true → (State.powerOn p tag events).Inv) ∧
  State.reset.Inv

/-- Headline: every step keeps the invariant of Safety.lean (canonical memories inside their spaces, `DSEL` never 6 or 7,
`OCC` either all-false or `OCC_INIT`, `ERR` 0 exactly while `FAULT = 0`, reserved bits 0, the results those of a mesh). -/
def Obligations.EveryStepKeepsTheInvariant : Prop :=
  ∀ s t : State, s.Inv → step s = .next t → t.Inv

/-- R29: the OPEN parameters are constants: no step writes them (that they ride in State is the model's, log 4). -/
def Obligations.NoStepWritesTheParameters : Prop :=
  ∀ s t : State, step s = .next t → t.params = s.params

/-- R31, R96: `OCC` changes only in a successful `BUILD_TABLE`, or by reset, and while `TBL_BUILT = 1` only by reset. -/
def Obligations.TheTableChangesOnlyInBuildTableOrReset : Prop :=
  ∀ s t : State, step s = .next t → t.occ ≠ s.occ →
    (∃ rest, s.pending = .reset :: rest) ∨
    (∃ rest, s.pending = .txn (.writeReg 0x00 0x00000002) :: rest ∧ s.fault = false ∧ s.tblBuilt = false ∧
      t.tblBuilt = true ∧ t.fault = false)

/-- R23, R115: `SCRATCH` is hidden: two instances that differ in it alone answer every step alike and still differ in it
alone, so no rule lets its old contents be observed. -/
def Obligations.ScratchContentsAreNeverObserved : Prop :=
  ∀ (s : State) (m : Memory Word),
    match step s, step { s with scratch := m } with
    | .next t, .next t' => t' = { t with scratch := t'.scratch }
    | .refused r, .refused r' => r = r'
    | _, _ => False

/-- R200: instances share no state and cannot signal each other: a step of one leaves every other as it was, and steps of
two different instances give the same system in either order. -/
def Obligations.InstancesShareNothing : Prop :=
  ∀ (sys a : System) (j k : Fin sys.instances.length), j ≠ k → sys.stepAt j = .next a →
    a.instances.length = sys.instances.length ∧
    a.instances[j.val]? = nextState (step (sys.instances.get j)) ∧
    (∀ n, n ≠ j.val → a.instances[n]? = sys.instances[n]?) ∧
    (∀ b, sys.stepAt k = .next b →
      ∃ (hk : k.val < a.instances.length) (hj : j.val < b.instances.length) (c : System),
        a.stepAt ⟨k.val, hk⟩ = .next c ∧ b.stepAt ⟨j.val, hj⟩ = .next c)

/-- R183, R181: a fault of a command sets `FAULT` and `ERR` and nothing else, except `ERR_BAD_TYPE` (R185); and each command
raises only its own codes. -/
def Obligations.AFaultChangesOnlyFaultAndErr : Prop :=
  ∀ (i : Instr) (s t : State), s.fault = false → exec i s = .next t → t.fault = true →
    (t.err ≠ 6 → t = { s with fault := true, err := t.err }) ∧
    (match i with
      | .config _ => t.err = 2 ∨ t.err = 3
      | .buildTable => t.err = 5
      | .generate => t.err = 2
      | .mesh => t.err = 2 ∨ t.err = 4 ∨ t.err = 6)

/-! ## CONFIG and BUILD_TABLE (40_config_and_table.md) -/

/-- R90 to R92: `CONFIG` faults with `ERR_BAD_DIM`, then with `ERR_ALLOC`, and else completes: `DSEL`, `CONFIGURED`,
`FACE_COUNT`, `IS_EMPTY` and nothing else, whether or not it was configured before. -/
def Obligations.ConfigFixesTheDimensionOrFaults : Prop :=
  ∀ (s : State) (d : BitVec 3), s.fault = false →
    (d = 0 ∨ d = 6 ∨ d = 7 → exec (.config d) s = .next { s with fault := true, err := 2 }) ∧
    (1 ≤ d.toNat → d.toNat ≤ 5 → s.params.scratchDepth < (2 ^ d.toNat) ^ 2 →
      exec (.config d) s = .next { s with fault := true, err := 3 }) ∧
    (1 ≤ d.toNat → d.toNat ≤ 5 → (2 ^ d.toNat) ^ 2 ≤ s.params.scratchDepth →
      exec (.config d) s = .next { s with dsel := d, configured := true, faceCount := 0, isEmpty := true })

/-- R93 to R95: the first `BUILD_TABLE` completes: every element of `OCC` from its own element of `OCC_INIT` (so air and
cave-air all-false), `TBL_BUILT`, and nothing else; a second raises `ERR_TABLE_REBUILT` and leaves `OCC` as it was. -/
def Obligations.BuildTableWritesEachElementFromItsOwn : Prop :=
  ∀ s : State, s.fault = false → s.params.wellFormed = true →
    (s.tblBuilt = false →
      ∃ t, exec .buildTable s = .next t ∧ t = { s with occ := t.occ, tblBuilt := true } ∧
        t.occ.length = s.params.nTypes ∧
        (∀ k, k < s.params.nTypes → s.params.occInit[k]? = some (occAt t k)) ∧ occAt t 0 = 0 ∧ occAt t 1 = 0) ∧
    (s.tblBuilt = true → exec .buildTable s = .next { s with fault := true, err := 5 })

/-- R90, R93 (state not touched): `CONFIG` and `BUILD_TABLE` store to no memory: every element of `GRID`, `SCRATCH` and `FB`
reads as before, and no operand register changes; `CONFIG` leaves the table and `TBL_BUILT`, `BUILD_TABLE` leaves `DIM`,
`CONFIGURED`, `FACE_COUNT` and `IS_EMPTY`. -/
def Obligations.ConfigAndBuildTableFrame : Prop :=
  ∀ (i : Instr) (s t : State), (∃ d, i = .config d) ∨ i = .buildTable → exec i s = .next t →
    (∀ a, gridAt t a = gridAt s a) ∧ (∀ a, scratchAt t a = scratchAt s a) ∧ (∀ a, fbAt t a = fbAt s a) ∧
    (∀ r ∈ ([.cx, .cy, .cz, .seed, .noiseCfg, .heightBase, .caveCfg] : List Reg), readReg t r = readReg s r) ∧
    ((∃ d, i = .config d) → t.occ = s.occ ∧ t.tblBuilt = s.tblBuilt) ∧
    (i = .buildTable → t.dsel = s.dsel ∧ t.configured = s.configured ∧ t.faceCount = s.faceCount ∧
      t.isEmpty = s.isEmpty)

/-! ## GENERATE (41_generator.md) -/

/-- R112 to R114, R121, R129: with a dimension configured `GENERATE` completes: every height of the chunk's columns, every
cell of the chunk from its world coordinate and its column's height, and nothing else. -/
def Obligations.GenerateFillsHeightsAndCellsAndNothingElse : Prop :=
  ∀ (s : State) (D : Nat), s.fault = false → s.configured = true → D = 2 ^ s.dsel.toNat →
    ∃ t, exec .generate s = .next t ∧
      (∀ x z, x < D → z < D → ∀ wx wz : Word,
        wx = BitVec.ofInt 32 (s.cx.toInt * D + x) → wz = BitVec.ofInt 32 (s.cz.toInt * D + z) →
        scratchAt t (z * D + x) = BitVec.ofInt 32 (s.heightBase.toInt +
          ((heightNoise (seedByte s.seed) (s.noiseCfg.toNat % 8) wx wz).toNat * (s.noiseCfg.toNat / 65536) / 256 : Nat)) ∧
        ∀ y, y < D → ∀ wy : Word, wy = BitVec.ofInt 32 (s.cy.toInt * D + y) →
          gridAt t (z * D ^ 2 + x * D + y) = cellType s wx wy wz (scratchAt t (z * D + x))) ∧
      (∀ i, D ^ 3 ≤ i → gridAt t i = gridAt s i) ∧ (∀ c, D ^ 2 ≤ c → scratchAt t c = scratchAt s c) ∧
      t = { s with grid := t.grid, scratch := t.scratch }

/-- R111: `GENERATE` faults with `ERR_BAD_DIM` when no dimension is configured, and has no other fault. -/
def Obligations.GenerateFaultsOnlyWithoutADimension : Prop :=
  ∀ s : State, s.fault = false →
    (s.configured = false → exec .generate s = .next { s with fault := true, err := 2 }) ∧
    (s.configured = true → ∃ t, exec .generate s = .next t ∧ t.fault = false ∧ t.err = s.err)

/-- R124 to R126: what `GENERATE` puts in a cell, by its depth below the column's stored height: air at and above it; grass
at depth 1; below that cave-air where the cave noise exceeds the threshold and caves are enabled, else dirt down to depth 4
and stone from depth 5. So only the codes 0 to 4, and no cave-air with `CAVE_EN = 0` or `CAVE_THR = 255`. -/
def Obligations.GeneratedCellsFollowDepthAndCaves : Prop :=
  ∀ (s t : State) (D x y z : Nat) (wx wy wz : Word), s.fault = false → s.configured = true →
    exec .generate s = .next t → D = 2 ^ s.dsel.toNat → x < D → y < D → z < D →
    wx = BitVec.ofInt 32 (s.cx.toInt * D + x) → wy = BitVec.ofInt 32 (s.cy.toInt * D + y) →
    wz = BitVec.ofInt 32 (s.cz.toInt * D + z) →
    let depth := (scratchAt t (z * D + x)).toInt - wy.toInt
    let cell := gridAt t (z * D ^ 2 + x * D + y)
    let carve := s.caveCfg.toNat % 2 = 1 ∧ s.caveCfg.toNat / 256 % 256 <
      (caveNoise (seedByte s.seed) (s.caveCfg.toNat / 16 % 8) wx wy wz).toNat
    (depth ≤ 0 → cell = 0) ∧ (depth = 1 → cell = 4) ∧ (2 ≤ depth → carve → cell = 1) ∧
    (2 ≤ depth → depth ≤ 4 → ¬ carve → cell = 3) ∧ (5 ≤ depth → ¬ carve → cell = 2) ∧ cell.toNat ≤ 4 ∧
    (s.caveCfg.toNat % 2 = 0 ∨ s.caveCfg.toNat / 256 % 256 = 255 → cell ≠ 1)

/-- R127: the cells after a successful `GENERATE` are a function of `DSEL` and the seven operand registers alone: whatever
the earlier contents of `GRID`, `SCRATCH`, `FB`, `OCC`, the flags and the parameters of two instances. -/
def Obligations.GenerationIsDeterministic : Prop :=
  ∀ s s' t t' : State, s.fault = false → s.configured = true → s'.fault = false → s'.configured = true →
    s.dsel = s'.dsel → s.cx = s'.cx → s.cy = s'.cy → s.cz = s'.cz → s.seed = s'.seed → s.noiseCfg = s'.noiseCfg →
    s.heightBase = s'.heightBase → s.caveCfg = s'.caveCfg →
    exec .generate s = .next t → exec .generate s' = .next t' →
    ∀ i, i < (2 ^ s.dsel.toNat) ^ 3 → gridAt t i = gridAt t' i

/-- R128: two chunks of the same `D` that contain the same world cell give it the same type, whichever chunk it is reached
through. -/
def Obligations.TheWorldIsContinuousAcrossChunks : Prop :=
  ∀ (s s' t t' : State) (D x y z x' y' z' : Nat), s.fault = false → s.configured = true → s'.fault = false →
    s'.configured = true → s.dsel = s'.dsel → s.seed = s'.seed → s.noiseCfg = s'.noiseCfg →
    s.heightBase = s'.heightBase → s.caveCfg = s'.caveCfg → D = 2 ^ s.dsel.toNat →
    x < D → y < D → z < D → x' < D → y' < D → z' < D →
    worldCoord s.cx D x = worldCoord s'.cx D x' → worldCoord s.cy D y = worldCoord s'.cy D y' →
    worldCoord s.cz D z = worldCoord s'.cz D z' →
    exec .generate s = .next t → exec .generate s' = .next t' →
    gridAt t (flatten3d x y z D) = gridAt t' (flatten3d x' y' z' D)

/-- R116, R118: `PERM` by its formula on numbers, a permutation of `0 .. 255`; the 2D hash by its formula, of period 256 in
each lattice coordinate. -/
def Obligations.PermIsAPermutationAndHashIsPeriodic : Prop :=
  (∀ a b : Byte, perm a = perm b → a = b) ∧ (∀ v : Byte, ∃ k, perm k = v) ∧
  (∀ (s : Byte) (a b k l : Int), hash2 s (a + 256 * k) (b + 256 * l) = hash2 s a b) ∧
  (∀ (k : Byte) (n : Nat), n = (2 * k.toNat * k.toNat + k.toNat) % 256 →
    (perm k).toNat = (n * 8 % 256 + n / 32) ^^^ 0xA5) ∧
  (∀ (s : Byte) (a b : Int), hash2 s a b =
    perm (BitVec.ofInt 8 ((perm (BitVec.ofInt 8 ((perm s).toNat + a % 256))).toNat + b % 256)))

/-- R119: a world coordinate is its lattice coordinate times the spacing plus its fraction, for negative coordinates too. -/
def Obligations.LatticeSplitIsExact : Prop :=
  ∀ (w : Word) (f : Nat), f ≤ 7 →
    w.toInt = asr w f * 2 ^ f + fraction w f ∧ fraction w f < 2 ^ f ∧ (fraction w f = w.toNat % 2 ^ f)

/-- R120, R131: the blend stays below `2^22` and at most `255*W*W`, so the noise is its exact quotient, no bit lost; at a
lattice point it is the lattice hash, and with `F = 0` the hash of the coordinates. -/
def Obligations.HeightNoiseIsAnExactQuotient : Prop :=
  ∀ (s : Byte) (f : Nat) (wx wz : Word), f ≤ 7 →
    heightBlend s f wx wz ≤ 255 * (2 ^ f * 2 ^ f) ∧ heightBlend s f wx wz < 2 ^ 22 ∧
    (heightNoise s f wx wz).toNat = heightBlend s f wx wz / (2 ^ f * 2 ^ f) ∧
    (fraction wx f = 0 → fraction wz f = 0 → heightNoise s f wx wz = hash2 s (asr wx f) (asr wz f)) ∧
    heightNoise s 0 wx wz = hash2 s wx.toInt wz.toInt

/-! ## Addressing (20_memory.md) and the loops -/

/-- R48, R47: `flatten3d` maps `[0,D)³` into `[0,D³)`, `unflatten3d` inverts it both ways, the column index is the cell index
divided by `D`, and a position of `POSW` bits represents exactly the `D³` cells. -/
def Obligations.FlattenAndUnflattenAreInverse : Prop :=
  (∀ D x y z : Nat, x < D → y < D → z < D →
    flatten3d x y z D < D ^ 3 ∧ unflatten3d (flatten3d x y z D) D = (x, y, z) ∧
    flatten2d x z D = flatten3d x y z D / D) ∧
  (∀ D i x y z : Nat, i < D ^ 3 → unflatten3d i D = (x, y, z) →
    x < D ∧ y < D ∧ z < D ∧ flatten3d x y z D = i) ∧
  (∀ dsel : BitVec 3, 2 ^ posW dsel = dimOf dsel ^ 3)

/-- The pseudocode's loops (R110, R140) write element by element in ascending index; the model's block write leaves the same
memory, as data. -/
def Obligations.ABlockWriteIsTheAscendingLoop : Prop :=
  ∀ (α : Type) (m : Memory α) (vals : List α), m.wf →
    m.writeBlock vals = vals.zipIdx.foldl (fun n c => n.write c.2 c.1) m

/-! ## MESH (42_mesher.md) -/

/-- R143, R144, R150, R151, R161, R162: on a well-formed input `MESH` completes. The faces it emits are exactly the
(cell, direction) pairs whose cell is solid, whose neighbour index is in range and whose neighbour's mask bit `opp(d)` is 0;
the records stand in `FB` in ascending cell index, then ascending direction code; `FACE_COUNT` counts them; `IS_EMPTY` says
that no cell is solid; nothing else changes. (`DSEL <= 5` is the invariant's range.) -/
def Obligations.MeshEmitsExactlyTheVisibleFacesInOrder : Prop :=
  ∀ (s : State) (D : Nat), s.fault = false → s.configured = true → s.tblBuilt = true → s.dsel.toNat ≤ 5 →
    D = 2 ^ s.dsel.toNat → (∀ i, i < D ^ 3 → (gridAt s i).toNat < s.params.nTypes) →
    ∃ (t : State) (faces : List (Nat × Dir)), exec .mesh s = .next t ∧
      faces.Pairwise (fun a b => 6 * a.1 + a.2.code < 6 * b.1 + b.2.code) ∧
      (∀ (i : Nat) (d : Dir), (i, d) ∈ faces ↔
        i < D ^ 3 ∧ gridAt s i ≠ 0 ∧ gridAt s i ≠ 1 ∧ 0 ≤ (i : Int) + d.off D ∧ (i : Int) + d.off D < (D ^ 3 : Nat) ∧
        (occAt s (gridAt s ((i : Int) + d.off D).toNat).toNat).getLsbD d.opp.code = false) ∧
      t.faceCount.toNat = faces.length ∧
      (∀ (k i : Nat) (d : Dir), faces[k]? = some (i, d) → fbAt t k = recordOf s i d) ∧
      (∀ k, faces.length ≤ k → fbAt t k = fbAt s k) ∧
      (t.isEmpty = true ↔ ∀ i, i < D ^ 3 → gridAt s i = 0 ∨ gridAt s i = 1) ∧
      t = { s with fb := t.fb, faceCount := t.faceCount, isEmpty := t.isEmpty }

/-- R141, R142, R186: the faults of `MESH` in their order: no dimension, no table, an unregistered code in the chunk;
with `NTYPES = 256` the last cannot occur. -/
def Obligations.MeshFaultsInOrder : Prop :=
  ∀ s : State, s.fault = false →
    (s.configured = false → exec .mesh s = .next { s with fault := true, err := 2 }) ∧
    (s.configured = true → s.tblBuilt = false → exec .mesh s = .next { s with fault := true, err := 4 }) ∧
    (s.configured = true → s.tblBuilt = true →
      (∃ i, i < (2 ^ s.dsel.toNat) ^ 3 ∧ s.params.nTypes ≤ (gridAt s i).toNat) →
      ∃ t, exec .mesh s = .next t ∧ t.fault = true ∧ t.err = 6) ∧
    (256 ≤ s.params.nTypes → ∀ t, exec .mesh s = .next t → t.fault = true → t.err ≠ 6)

/-- R185, R142, R59: whatever `MESH` answers, a fault included, `GRID`, `OCC`, `SCRATCH`, `DIM` and the operand registers are
unchanged; only after `ERR_BAD_TYPE` may an element of `FB` at or above the number of faces have changed. Nothing is said of
the values that fault leaves in `FB`, `FACE_COUNT`, `IS_EMPTY`. (`DSEL <= 5` is the invariant's range.) -/
def Obligations.MeshFrame : Prop :=
  ∀ s t : State, s.dsel.toNat ≤ 5 → exec .mesh s = .next t →
    (∀ a, gridAt t a = gridAt s a) ∧ (∀ a, scratchAt t a = scratchAt s a) ∧ t.occ = s.occ ∧ t.dsel = s.dsel ∧
    t.configured = s.configured ∧ t.tblBuilt = s.tblBuilt ∧
    (∀ r ∈ ([.dim, .cx, .cy, .cz, .seed, .noiseCfg, .heightBase, .caveCfg] : List Reg), readReg t r = readReg s r) ∧
    (t.fault = false → t.err = s.err ∧ ∀ k, t.faceCount.toNat ≤ k → fbAt t k = fbAt s k) ∧
    (t.fault = true → t.err ≠ 6 ∨ s.fault = true →
      (∀ k, fbAt t k = fbAt s k) ∧ t.faceCount = s.faceCount ∧ t.isEmpty = s.isEmpty)

/-- R151: `FACE_COUNT <= 6*D³ - (2*D² + 2*D + 2)` after a successful `MESH`. (`DSEL <= 5` is the invariant's range.) -/
def Obligations.FaceCountIsBoundedByTheInnerFaces : Prop :=
  ∀ (s t : State) (D : Nat), s.fault = false → s.dsel.toNat ≤ 5 → D = 2 ^ s.dsel.toNat → exec .mesh s = .next t →
    t.fault = false → t.faceCount.toNat + (2 * D ^ 2 + 2 * D + 2) ≤ 6 * D ^ 3

/-- R72, R73, R77, R160, R158, R159: every record a successful `MESH` writes is, as a number, the sum of R72 of its fields, so
each field stands at its bits; it is below `2^RECW`, and unpacking it gives a position below `D³` that is a solid cell, one
of the six directions, four levels in 0..3 that are the face's, and the material of that cell and direction. (`DSEL <= 5` is
the invariant's range.) -/
def Obligations.EveryRecordUnpacksToItsFace : Prop :=
  ∀ (s t : State) (k : Nat), s.fault = false → s.dsel.toNat ≤ 5 → exec .mesh s = .next t → t.fault = false →
    k < t.faceCount.toNat →
    (fbAt t k).toNat < 2 ^ (3 * s.dsel.toNat + 19) ∧
    ∃ (i : Nat) (d : Dir), i < (2 ^ s.dsel.toNat) ^ 3 ∧ gridAt s i ≠ 0 ∧ gridAt s i ≠ 1 ∧
      (∀ P, P = 3 * s.dsel.toNat → (fbAt t k).toNat =
        i + d.code * 2 ^ P + aoLevel s i d 0 * 2 ^ (P + 3) + aoLevel s i d 1 * 2 ^ (P + 5) +
          aoLevel s i d 2 * 2 ^ (P + 7) + aoLevel s i d 3 * 2 ^ (P + 9) +
          (materialOf s.params (gridAt s i) d).toNat * 2 ^ (P + 11)) ∧
      unpack (3 * s.dsel.toNat) (fbAt t k).toNat =
        { posIndex := i, faceDir := d.code, ao0 := aoLevel s i d 0, ao1 := aoLevel s i d 1, ao2 := aoLevel s i d 2
          ao3 := aoLevel s i d 3, materialId := (materialOf s.params (gridAt s i) d).toNat } ∧
      d.code ≤ 5 ∧ aoLevel s i d 0 ≤ 3 ∧ aoLevel s i d 1 ≤ 3 ∧ aoLevel s i d 2 ≤ 3 ∧ aoLevel s i d 3 ≤ 3

/-- R72, R73: `Unpack` inverts `Pack` on legal fields, and the record is below `2^RECW`, for every position width. -/
def Obligations.UnpackInvertsPack : Prop :=
  ∀ (p : Nat) (f : Face), f.legal p → pack p f < 2 ^ (p + 19) ∧ unpack p (pack p f) = f

/-- R165 (a), R144, R161: a chunk of air and cave-air alone meshes to nothing, `IS_EMPTY = 1` and `FACE_COUNT = 0`, and
`IS_EMPTY = 1` never comes with a record. -/
def Obligations.AnAirChunkMeshesToNothing : Prop :=
  ∀ s t : State, s.fault = false → exec .mesh s = .next t → t.fault = false →
    ((∀ i, i < (2 ^ s.dsel.toNat) ^ 3 → gridAt s i = 0 ∨ gridAt s i = 1) → t.isEmpty = true ∧ t.faceCount = 0) ∧
    (t.isEmpty = true → t.faceCount = 0)

/-- R165 (b), (c): where every solid type present has the all-true mask, a face is emitted only towards an air or cave-air
cell; so a chunk of solid cells alone emits no record and is not empty. -/
def Obligations.FullyOccludingBlocksShowOnlyToAir : Prop :=
  ∀ s t : State, s.fault = false → exec .mesh s = .next t → t.fault = false →
    (∀ i, i < (2 ^ s.dsel.toNat) ^ 3 → gridAt s i ≠ 0 → gridAt s i ≠ 1 → occAt s (gridAt s i).toNat = 0x3F) →
    (∀ i d, (i, d) ∈ visibleFaces s →
      gridAt s (neighbour s i d).toNat = 0 ∨ gridAt s (neighbour s i d).toNat = 1) ∧
    ((∀ i, i < (2 ^ s.dsel.toNat) ^ 3 → gridAt s i ≠ 0 ∧ gridAt s i ≠ 1) → t.faceCount = 0 ∧ t.isEmpty = false)

/-- R163: the result of `MESH` is a function of `DSEL`, the chunk's cells, `OCC` and `MaterialOf` alone: whatever the chunk
coordinate, the noise registers, `SCRATCH` and the old results of two instances. -/
def Obligations.MeshDependsOnGridTableAndMaterialAlone : Prop :=
  ∀ s s' t t' : State, s.fault = false → s'.fault = false → s.dsel.toNat ≤ 5 → s.dsel = s'.dsel → s.occ = s'.occ →
    s.params.materials = s'.params.materials →
    (∀ i, i < (2 ^ s.dsel.toNat) ^ 3 → gridAt s i = gridAt s' i) →
    exec .mesh s = .next t → exec .mesh s' = .next t' → t.fault = false → t'.fault = false →
    t.faceCount = t'.faceCount ∧ t.isEmpty = t'.isEmpty ∧ ∀ k, k < t.faceCount.toNat → fbAt t k = fbAt t' k

/-- R146: the neighbour index is the geometric neighbour while the step stays inside the chunk on the axis of the direction,
and at the ends of the `y` and `x` axes it is the cell the rule's table names. -/
def Obligations.NeighbourIndicesWrapAsTheTableSays : Prop :=
  ∀ (s : State) (D x y z : Nat), D = 2 ^ s.dsel.toNat → x < D → y < D → z < D →
    let n := fun d => neighbour s (flatten3d x y z D) d
    (z + 1 < D → n .front = flatten3d x y (z + 1) D) ∧ (z + 1 = D → inChunk s (n .front) = false) ∧
    (0 < z → n .back = flatten3d x y (z - 1) D) ∧ (z = 0 → inChunk s (n .back) = false) ∧
    (y + 1 < D → n .top = flatten3d x (y + 1) z D) ∧
    (y + 1 = D → x + 1 < D → n .top = flatten3d (x + 1) 0 z D) ∧
    (y + 1 = D → x + 1 = D → n .top = flatten3d 0 0 (z + 1) D) ∧
    (0 < y → n .bottom = flatten3d x (y - 1) z D) ∧
    (y = 0 → 0 < x → n .bottom = flatten3d (x - 1) (D - 1) z D) ∧
    (y = 0 → x = 0 → 0 < z → n .bottom = flatten3d (D - 1) (D - 1) (z - 1) D) ∧
    (x + 1 < D → n .left = flatten3d (x + 1) y z D) ∧ (x + 1 = D → n .left = flatten3d 0 y (z + 1) D) ∧
    (0 < x → n .right = flatten3d (x - 1) y z D) ∧ (x = 0 → 0 < z → n .right = flatten3d (D - 1) y (z - 1) D)

/-- R147: the neighbour of a cell is absent exactly in the cases of the rule's table, and the table's numbers of cells. -/
def Obligations.NeighboursAreAbsentExactlyAtTheEnds : Prop :=
  ∀ (s : State) (D N : Nat), D = 2 ^ s.dsel.toNat → N = D ^ 3 →
    (∀ i, i < N →
      (inChunk s (neighbour s i .front) = false ↔ N - D ^ 2 ≤ i) ∧ (inChunk s (neighbour s i .back) = false ↔ i < D ^ 2) ∧
      (inChunk s (neighbour s i .top) = false ↔ i = N - 1) ∧ (inChunk s (neighbour s i .bottom) = false ↔ i = 0) ∧
      (inChunk s (neighbour s i .left) = false ↔ N - D ≤ i) ∧ (inChunk s (neighbour s i .right) = false ↔ i < D)) ∧
    (∀ d : Dir, ((List.range N).filter fun i => !inChunk s (neighbour s i d)).length =
      match d with
      | .front => D ^ 2
      | .back => D ^ 2
      | .top => 1
      | .bottom => 1
      | .left => D
      | .right => D)

/-- R152 to R154: the three cells of a corner from the tangent strides and the corner's signs; with `D >= 2` none of them is
the face's own cell or its neighbour. -/
def Obligations.CornerCellsAreInFrontOfTheFace : Prop :=
  ∀ (s : State) (D i c : Nat) (d : Dir) (t1 t2 s1 s2 : Int), D = 2 ^ s.dsel.toNat → c < 4 →
    (t1, t2) = (match d with
      | .front => (1, (D : Int))
      | .back => (1, (D : Int))
      | .top => ((D : Int), (D : Int) ^ 2)
      | .bottom => ((D : Int), (D : Int) ^ 2)
      | .left => (1, (D : Int) ^ 2)
      | .right => (1, (D : Int) ^ 2)) →
    s1 = (if c % 2 = 1 then 1 else -1) → s2 = (if c / 2 = 1 then 1 else -1) →
    cornerCells s i d c =
      (neighbour s i d + s1 * t1, neighbour s i d + s2 * t2, neighbour s i d + s1 * t1 + s2 * t2) ∧
    (2 ≤ D → ∀ j, j = (cornerCells s i d c).1 ∨ j = (cornerCells s i d c).2.1 ∨ j = (cornerCells s i d c).2.2 →
      j ≠ (i : Int) ∧ j ≠ neighbour s i d)

/-- R155, R156: the level of a corner is the number of its three cells that are in range, solid and cover the side that
points back at the face; the clamp to 3 never acts. -/
def Obligations.TheAmbientLevelCountsOccludingCells : Prop :=
  ∀ (s : State) (i c : Nat) (d : Dir),
    aoLevel s i d c =
      ([(cornerCells s i d c).1, (cornerCells s i d c).2.1, (cornerCells s i d c).2.2].filter fun j : Int =>
        decide (0 ≤ j) && decide (j < ((2 ^ s.dsel.toNat) ^ 3 : Nat)) && gridAt s j.toNat != 0 &&
          gridAt s j.toNat != 1 && (occAt s (gridAt s j.toNat).toNat).getLsbD d.opp.code).length ∧
    aoLevel s i d c ≤ 3

/-- R76, R49: the face buffer as bytes: `FACE_COUNT*CW/8` of them, `CW` 64 for `D = 32` and 32 below, record `k` starting at
byte `k*CW/8`, little-endian and zero-extended. (`DSEL <= 5` is the invariant's range.) -/
def Obligations.TheFaceBufferSerialisesLittleEndian : Prop :=
  ∀ (s : State) (n : Nat), s.dsel.toNat ≤ 5 → n = (if s.dsel = 5 then 8 else 4) →
    (faceBufferBytes s).length = s.faceCount.toNat * n ∧
    ∀ k j, k < s.faceCount.toNat → j < n →
      (faceBufferBytes s)[k * n + j]? = some (BitVec.ofNat 8 ((fbAt s k).toNat / 256 ^ j))

/-! ## Host scripts (30_encoding.md) -/

/-- R78: the command lines of a script write their command's word to `REG.CMD`, `config D` the word of `CONFIG log2 D`. -/
def Obligations.ScriptCommandLinesWriteCommandWords : Prop :=
  (∀ (d n : Nat) (k : BitVec 3), 1 ≤ k.toNat → k.toNat ≤ 5 → n = 2 ^ k.toNat →
    (ScriptLine.config n).expand d = [.writeReg 0x00 (encode (.config k))]) ∧
  (∀ (d : Nat) (k : BitVec 3), (ScriptLine.configRaw k.toNat).expand d = [.writeReg 0x00 (encode (.config k))]) ∧
  (∀ d : Nat, ScriptLine.buildTable.expand d = [.writeReg 0x00 (encode .buildTable)] ∧
    ScriptLine.generate.expand d = [.writeReg 0x00 (encode .generate)] ∧
    ScriptLine.mesh.expand d = [.writeReg 0x00 (encode .mesh)] ∧
    ScriptLine.genmesh.expand d = ScriptLine.generate.expand d ++ ScriptLine.mesh.expand d)

/-! ## Beside the statements above: register reads, the direction codes, the noise kernel's values -/

/-- R42 (row 2), R41, R16 to R20: a host read of each of the eleven registers returns that register, `CMD` reading 0, and
changes nothing but the input and the returned value (log 1, log 3), while halted too. -/
def Obligations.ARegisterReadAnswersItsRegister : Prop :=
  ∀ (s : State) (rest : List HostEvent) (off : Nat) (v : Word),
    (off, v) ∈ [(0x00, 0), (0x04, statusWord s), (0x08, dimWord s), (0x0C, faceCountWord s), (0x10, s.cx), (0x14, s.cy),
      (0x18, s.cz), (0x1C, s.seed), (0x20, s.noiseCfg), (0x24, s.heightBase), (0x28, s.caveCfg)] →
    s.pending = .txn (.readReg off) :: rest →
    step s = .next { s with pending := rest, reply := some (.reg v) }

/-- R65 to R67: each direction's code, the code of its opposite (`d xor 1`) and its index offset, row by row; and the mask bit
of a direction is the bit its code numbers. -/
def Obligations.DirectionsFollowTheTable : Prop :=
  (∀ D : Nat, ([.front, .back, .top, .bottom, .left, .right] : List Dir).map (fun d => (d.code, d.opp.code, d.off D)) =
    [(0, 1, (D : Int) ^ 2), (1, 0, -(D : Int) ^ 2), (2, 3, 1), (3, 2, -1), (4, 5, (D : Int)), (5, 4, -(D : Int))]) ∧
  (∀ (d : Dir) (m : Mask), d.opp.code = d.code ^^^ 1 ∧ d.opp.opp = d ∧ covers m d = decide (m.toNat / 2 ^ d.code % 2 = 1))

/-- R117: the seed byte is the xor of the four bytes of the seed, and generation uses the seed only through it: two seeds with
one seed byte give the same cells. -/
def Obligations.TheSeedMattersOnlyThroughItsByte : Prop :=
  (∀ w : Word, (seedByte w).toNat =
    (w.toNat % 256) ^^^ (w.toNat / 2 ^ 8 % 256) ^^^ (w.toNat / 2 ^ 16 % 256) ^^^ (w.toNat / 2 ^ 24 % 256)) ∧
  (∀ (s t t' : State) (seed : Word), s.fault = false → s.configured = true → seedByte seed = seedByte s.seed →
    exec .generate s = .next t → exec .generate { s with seed := seed } = .next t' → t' = { t with seed := seed })

/-- R122, R123: `Hash3` by its formula, of period 256 in each coordinate, and the cave noise is the hash of the lattice cube of
`2^G` blocks a side that holds the cell, whichever cell of the cube, below 0 too. -/
def Obligations.CaveNoiseIsConstantInsideALatticeCube : Prop :=
  (∀ (s : Byte) (a b c : Int), hash3 s a b c =
    perm (BitVec.ofInt 8 ((perm (BitVec.ofInt 8 ((perm (BitVec.ofInt 8
      ((perm (BitVec.ofNat 8 (s.toNat + 1))).toNat + a % 256))).toNat + b % 256))).toNat + c % 256))) ∧
  (∀ (s : Byte) (a b c k l m : Int), hash3 s (a + 256 * k) (b + 256 * l) (c + 256 * m) = hash3 s a b c) ∧
  (∀ (s : Byte) (g dx dy dz : Nat) (a b c : Int) (wx wy wz : Word), g ≤ 7 → dx < 2 ^ g → dy < 2 ^ g → dz < 2 ^ g →
    wx.toInt = a * 2 ^ g + dx → wy.toInt = b * 2 ^ g + dy → wz.toInt = c * 2 ^ g + dz →
    caveNoise s g wx wy wz = hash3 s a b c)

/-- R119, R120: the height noise blends the four lattice hashes around the column, each with the area opposite it, and floors
the quotient. -/
def Obligations.HeightNoiseBlendsFourLatticeHashes : Prop :=
  ∀ (s : Byte) (f fx fz W : Nat) (ix iz : Int) (wx wz : Word), f ≤ 7 → W = 2 ^ f → fx < W → fz < W →
    wx.toInt = ix * W + fx → wz.toInt = iz * W + fz →
    (heightNoise s f wx wz).toNat =
      ((hash2 s ix iz).toNat * ((W - fx) * (W - fz)) + (hash2 s (ix + 1) iz).toNat * (fx * (W - fz)) +
        (hash2 s ix (iz + 1)).toNat * ((W - fx) * fz) + (hash2 s (ix + 1) (iz + 1)).toNat * (fx * fz)) / (W * W)
end

