-- ==== Sys2Proof/Laws/Decode.lean ====
section
/-! SUPPORT. The fields of a command word as numbers, and the bytes of a word read back. -/

namespace Sys2Proof

theorem opcodeField_toNat (w : Word) : (opcodeField w).toNat = w.toNat % 16 := by simp [opcodeField]

theorem dselField_toNat (w : Word) : (dselField w).toNat = w.toNat / 16 % 8 := by
  simp [dselField, Nat.shiftRight_eq_div_pow]

theorem zeroField_toNat (w : Word) : (zeroField w).toNat = w.toNat / 128 := by
  have := w.isLt
  simp [zeroField, Nat.shiftRight_eq_div_pow]
  omega

/-- The four bytes of a word carry the word. -/
theorem wordOfBytes_bytes (w : Word) :
    wordOfBytes (w.extractLsb' 0 8) (w.extractLsb' 8 8) (w.extractLsb' 16 8) (w.extractLsb' 24 8) = w := by
  have := w.isLt
  apply BitVec.eq_of_toNat_eq
  simp only [wordOfBytes, BitVec.toNat_append, BitVec.extractLsb'_toNat, Nat.shiftRight_eq_div_pow]
  rw [← Nat.shiftLeft_add_eq_or_of_lt (by omega), ← Nat.shiftLeft_add_eq_or_of_lt (by omega),
    ← Nat.shiftLeft_add_eq_or_of_lt (by omega)]
  simp only [Nat.shiftLeft_eq]
  omega

end Sys2Proof
end

