-- ==== Sys2Proof/Laws/Memory.lean ====
section
/-! SUPPORT. What reading after writing gives in a space, and that every write keeps the canonical form. -/

namespace Sys2Proof.Machine

variable {α : Type}

/-! ## Cells -/

@[simp] theorem lookupCell_nil (i : Nat) : lookupCell i ([] : List (Nat × α)) = none := rfl

@[simp] theorem lookupCell_cons (i k : Nat) (v : α) (r : List (Nat × α)) :
    lookupCell i ((k, v) :: r) = if k = i then some v else lookupCell i r := rfl

theorem lookupCell_insertCell (i j : Nat) (v : α) (cs : List (Nat × α)) :
    lookupCell j (insertCell i v cs) = if i = j then some v else lookupCell j cs := by
  induction cs with
  | nil => rfl
  | cons c r ih =>
    obtain ⟨k, u⟩ := c
    by_cases h1 : i < k
    · simp [insertCell, h1]
    · by_cases h2 : i = k
      · subst h2
        by_cases h3 : i = j <;> simp [insertCell, h3]
      · simp only [insertCell, h1, h2, if_false, lookupCell_cons, ih]
        by_cases h3 : k = j
        · simp [h3, show i ≠ j by omega]
        · simp [h3]

theorem mem_insertCell {i : Nat} {v : α} {cs : List (Nat × α)} {c : Nat × α} (h : c ∈ insertCell i v cs) :
    c = (i, v) ∨ c ∈ cs := by
  induction cs with
  | nil => simpa [insertCell] using h
  | cons d r ih =>
    obtain ⟨k, u⟩ := d
    by_cases h1 : i < k
    · simpa [insertCell, h1] using h
    · by_cases h2 : i = k
      · subst h2
        simp only [insertCell, lt_irrefl, if_false, if_true, List.mem_cons] at h
        exact h.imp id (List.mem_cons_of_mem _)
      · simp only [insertCell, h1, h2, if_false, List.mem_cons] at h
        rcases h with h | h
        · exact .inr (by simp [h])
        · exact (ih h).imp id (List.mem_cons_of_mem _)

theorem insertCell_sorted (i : Nat) (v : α) {cs : List (Nat × α)} (h : cs.Pairwise fun a b => a.1 < b.1) :
    (insertCell i v cs).Pairwise fun a b => a.1 < b.1 := by
  induction cs with
  | nil => simp [insertCell]
  | cons c r ih =>
    obtain ⟨k, u⟩ := c
    obtain ⟨hk, hr⟩ := List.pairwise_cons.mp h
    by_cases h1 : i < k
    · simp only [insertCell, h1, if_true]
      refine List.pairwise_cons.mpr ⟨fun c hc => ?_, h⟩
      rcases List.mem_cons.mp hc with rfl | hc
      · exact h1
      · exact lt_trans h1 (hk c hc)
    · by_cases h2 : i = k
      · subst h2
        simp only [insertCell, h1, if_false, if_true]
        exact List.pairwise_cons.mpr ⟨hk, hr⟩
      · simp only [insertCell, h1, h2, if_false]
        refine List.pairwise_cons.mpr ⟨fun c hc => ?_, ih hr⟩
        rcases mem_insertCell hc with rfl | hc
        · show k < i; omega
        · exact hk c hc

/-! ## Numbered values -/

theorem mem_numberFrom {k : Nat} {vals : List α} {c : Nat × α} (h : c ∈ numberFrom k vals) :
    k ≤ c.1 ∧ c.1 < k + vals.length := by
  induction vals generalizing k with
  | nil => simp [numberFrom] at h
  | cons v r ih =>
    rcases List.mem_cons.mp h with rfl | h
    · simp
    · have := ih h
      simp only [List.length_cons]
      omega

theorem numberFrom_sorted (k : Nat) (vals : List α) : (numberFrom k vals).Pairwise fun a b => a.1 < b.1 := by
  induction vals generalizing k with
  | nil => simp [numberFrom]
  | cons v r ih =>
    refine List.pairwise_cons.mpr ⟨fun c hc => ?_, ih (k + 1)⟩
    have := mem_numberFrom hc
    show k < c.1
    omega

theorem lookupCell_numberFrom_append (k j : Nat) (vals : List α) (cs : List (Nat × α)) :
    lookupCell j (numberFrom k vals ++ cs) =
      if k ≤ j ∧ j < k + vals.length then vals[j - k]? else lookupCell j cs := by
  induction vals generalizing k with
  | nil => simp [numberFrom]
  | cons v r ih =>
    simp only [numberFrom, List.cons_append, lookupCell_cons, ih, List.length_cons]
    by_cases h1 : k = j
    · subst h1; simp
    · by_cases h2 : k + 1 ≤ j ∧ j < k + 1 + r.length
      · have h3 : k ≤ j ∧ j < k + (r.length + 1) := by omega
        simp only [h1, h2, h3, if_false, if_true, and_self]
        rw [show j - k = (j - (k + 1)) + 1 by omega, List.getElem?_cons_succ]
      · have h3 : ¬ (k ≤ j ∧ j < k + (r.length + 1)) := by omega
        simp only [h1, h2, h3, if_false]

theorem lookupCell_filter_ge (n j : Nat) (cs : List (Nat × α)) (h : n ≤ j) :
    lookupCell j (cs.filter fun c => n ≤ c.1) = lookupCell j cs := by
  induction cs with
  | nil => rfl
  | cons c r ih =>
    obtain ⟨k, u⟩ := c
    by_cases h1 : n ≤ k
    · simp [h1, ih]
    · simp [h1, ih, show k ≠ j by omega]

/-! ## The memory operations -/

namespace Memory

@[simp] theorem write_tag (m : Memory α) (i : Nat) (v : α) : (m.write i v).tag = m.tag := rfl

@[simp] theorem writeBlock_tag (m : Memory α) (vals : List α) : (m.writeBlock vals).tag = m.tag := rfl

@[simp] theorem lookup_unspecified (tag i : Nat) : (unspecified tag : Memory α).lookup i = none := rfl

@[simp] theorem lookup_write (m : Memory α) (i j : Nat) (v : α) :
    (m.write i v).lookup j = if i = j then some v else m.lookup j :=
  lookupCell_insertCell i j v m.cells

theorem lookup_writeBlock (m : Memory α) (vals : List α) (j : Nat) :
    (m.writeBlock vals).lookup j = if j < vals.length then vals[j]? else m.lookup j := by
  show lookupCell j (numberFrom 0 vals ++ _) = _
  rw [lookupCell_numberFrom_append]
  by_cases h : j < vals.length
  · simp [h]
  · simp only [Nat.zero_le, true_and, Nat.zero_add, h, if_false]
    exact lookupCell_filter_ge _ _ _ (Nat.le_of_not_lt h)

theorem wf_unspecified (tag : Nat) : (unspecified tag : Memory α).wf := List.Pairwise.nil

theorem wf_write {m : Memory α} (h : m.wf) (i : Nat) (v : α) : (m.write i v).wf := insertCell_sorted i v h

theorem wf_writeBlock {m : Memory α} (h : m.wf) (vals : List α) : (m.writeBlock vals).wf := by
  refine List.pairwise_append.mpr ⟨numberFrom_sorted 0 vals, h.filter _, fun a ha b hb => ?_⟩
  have h1 := mem_numberFrom ha
  have h2 := (List.mem_filter.mp hb).2
  simp only [decide_eq_true_eq] at h2
  omega

theorem within_unspecified (tag depth : Nat) : (unspecified tag : Memory α).within depth := by
  intro c hc
  cases hc

theorem within_write {m : Memory α} {depth i : Nat} (h : m.within depth) (hi : i < depth) (v : α) :
    (m.write i v).within depth := fun c hc =>
  (mem_insertCell hc).elim (fun h' => by rw [h']; exact hi) (h c)

theorem within_writeBlock {m : Memory α} {depth : Nat} (h : m.within depth) {vals : List α}
    (hv : vals.length ≤ depth) : (m.writeBlock vals).within depth := fun c hc => by
  rcases List.mem_append.mp hc with hc | hc
  · have := mem_numberFrom hc
    omega
  · exact h c (List.mem_filter.mp hc).1

end Memory

end Sys2Proof.Machine
end

