-- ==== Sys2Proof/Laws/State.lean ====
section
/-! SUPPORT. Every field after every update of a state, so that no proof unfolds one. -/

namespace Sys2Proof.Machine

variable (s : State)

/-! ## `setFault` -/

@[simp] theorem State.setFault_params (c : ErrCode) : (s.setFault c).params = s.params := rfl
@[simp] theorem State.setFault_fault (c : ErrCode) : (s.setFault c).fault = true := rfl
@[simp] theorem State.setFault_err (c : ErrCode) : (s.setFault c).err = c.code := rfl
@[simp] theorem State.setFault_configured (c : ErrCode) : (s.setFault c).configured = s.configured := rfl
@[simp] theorem State.setFault_tblBuilt (c : ErrCode) : (s.setFault c).tblBuilt = s.tblBuilt := rfl
@[simp] theorem State.setFault_isEmpty (c : ErrCode) : (s.setFault c).isEmpty = s.isEmpty := rfl
@[simp] theorem State.setFault_dsel (c : ErrCode) : (s.setFault c).dsel = s.dsel := rfl
@[simp] theorem State.setFault_faceCount (c : ErrCode) : (s.setFault c).faceCount = s.faceCount := rfl
@[simp] theorem State.setFault_cx (c : ErrCode) : (s.setFault c).cx = s.cx := rfl
@[simp] theorem State.setFault_cy (c : ErrCode) : (s.setFault c).cy = s.cy := rfl
@[simp] theorem State.setFault_cz (c : ErrCode) : (s.setFault c).cz = s.cz := rfl
@[simp] theorem State.setFault_seed (c : ErrCode) : (s.setFault c).seed = s.seed := rfl
@[simp] theorem State.setFault_noiseCfg (c : ErrCode) : (s.setFault c).noiseCfg = s.noiseCfg := rfl
@[simp] theorem State.setFault_heightBase (c : ErrCode) : (s.setFault c).heightBase = s.heightBase := rfl
@[simp] theorem State.setFault_caveCfg (c : ErrCode) : (s.setFault c).caveCfg = s.caveCfg := rfl
@[simp] theorem State.setFault_grid (c : ErrCode) : (s.setFault c).grid = s.grid := rfl
@[simp] theorem State.setFault_occ (c : ErrCode) : (s.setFault c).occ = s.occ := rfl
@[simp] theorem State.setFault_scratch (c : ErrCode) : (s.setFault c).scratch = s.scratch := rfl
@[simp] theorem State.setFault_fb (c : ErrCode) : (s.setFault c).fb = s.fb := rfl
@[simp] theorem State.setFault_pending (c : ErrCode) : (s.setFault c).pending = s.pending := rfl
@[simp] theorem State.setFault_reply (c : ErrCode) : (s.setFault c).reply = s.reply := rfl
@[simp] theorem State.setFault_nextFree (c : ErrCode) : (s.setFault c).nextFree = s.nextFree := rfl

/-! ## `setConfigured` -/

@[simp] theorem State.setConfigured_params (d : BitVec 3) : (s.setConfigured d).params = s.params := rfl
@[simp] theorem State.setConfigured_fault (d : BitVec 3) : (s.setConfigured d).fault = s.fault := rfl
@[simp] theorem State.setConfigured_err (d : BitVec 3) : (s.setConfigured d).err = s.err := rfl
@[simp] theorem State.setConfigured_configured (d : BitVec 3) : (s.setConfigured d).configured = true := rfl
@[simp] theorem State.setConfigured_tblBuilt (d : BitVec 3) : (s.setConfigured d).tblBuilt = s.tblBuilt := rfl
@[simp] theorem State.setConfigured_isEmpty (d : BitVec 3) : (s.setConfigured d).isEmpty = true := rfl
@[simp] theorem State.setConfigured_dsel (d : BitVec 3) : (s.setConfigured d).dsel = d := rfl
@[simp] theorem State.setConfigured_faceCount (d : BitVec 3) : (s.setConfigured d).faceCount = 0 := rfl
@[simp] theorem State.setConfigured_cx (d : BitVec 3) : (s.setConfigured d).cx = s.cx := rfl
@[simp] theorem State.setConfigured_cy (d : BitVec 3) : (s.setConfigured d).cy = s.cy := rfl
@[simp] theorem State.setConfigured_cz (d : BitVec 3) : (s.setConfigured d).cz = s.cz := rfl
@[simp] theorem State.setConfigured_seed (d : BitVec 3) : (s.setConfigured d).seed = s.seed := rfl
@[simp] theorem State.setConfigured_noiseCfg (d : BitVec 3) : (s.setConfigured d).noiseCfg = s.noiseCfg := rfl
@[simp] theorem State.setConfigured_heightBase (d : BitVec 3) : (s.setConfigured d).heightBase = s.heightBase := rfl
@[simp] theorem State.setConfigured_caveCfg (d : BitVec 3) : (s.setConfigured d).caveCfg = s.caveCfg := rfl
@[simp] theorem State.setConfigured_grid (d : BitVec 3) : (s.setConfigured d).grid = s.grid := rfl
@[simp] theorem State.setConfigured_occ (d : BitVec 3) : (s.setConfigured d).occ = s.occ := rfl
@[simp] theorem State.setConfigured_scratch (d : BitVec 3) : (s.setConfigured d).scratch = s.scratch := rfl
@[simp] theorem State.setConfigured_fb (d : BitVec 3) : (s.setConfigured d).fb = s.fb := rfl
@[simp] theorem State.setConfigured_pending (d : BitVec 3) : (s.setConfigured d).pending = s.pending := rfl
@[simp] theorem State.setConfigured_reply (d : BitVec 3) : (s.setConfigured d).reply = s.reply := rfl
@[simp] theorem State.setConfigured_nextFree (d : BitVec 3) : (s.setConfigured d).nextFree = s.nextFree := rfl

/-! ## `setTable` -/

@[simp] theorem State.setTable_params (o : List Mask) : (s.setTable o).params = s.params := rfl
@[simp] theorem State.setTable_fault (o : List Mask) : (s.setTable o).fault = s.fault := rfl
@[simp] theorem State.setTable_err (o : List Mask) : (s.setTable o).err = s.err := rfl
@[simp] theorem State.setTable_configured (o : List Mask) : (s.setTable o).configured = s.configured := rfl
@[simp] theorem State.setTable_tblBuilt (o : List Mask) : (s.setTable o).tblBuilt = true := rfl
@[simp] theorem State.setTable_isEmpty (o : List Mask) : (s.setTable o).isEmpty = s.isEmpty := rfl
@[simp] theorem State.setTable_dsel (o : List Mask) : (s.setTable o).dsel = s.dsel := rfl
@[simp] theorem State.setTable_faceCount (o : List Mask) : (s.setTable o).faceCount = s.faceCount := rfl
@[simp] theorem State.setTable_cx (o : List Mask) : (s.setTable o).cx = s.cx := rfl
@[simp] theorem State.setTable_cy (o : List Mask) : (s.setTable o).cy = s.cy := rfl
@[simp] theorem State.setTable_cz (o : List Mask) : (s.setTable o).cz = s.cz := rfl
@[simp] theorem State.setTable_seed (o : List Mask) : (s.setTable o).seed = s.seed := rfl
@[simp] theorem State.setTable_noiseCfg (o : List Mask) : (s.setTable o).noiseCfg = s.noiseCfg := rfl
@[simp] theorem State.setTable_heightBase (o : List Mask) : (s.setTable o).heightBase = s.heightBase := rfl
@[simp] theorem State.setTable_caveCfg (o : List Mask) : (s.setTable o).caveCfg = s.caveCfg := rfl
@[simp] theorem State.setTable_grid (o : List Mask) : (s.setTable o).grid = s.grid := rfl
@[simp] theorem State.setTable_occ (o : List Mask) : (s.setTable o).occ = o := rfl
@[simp] theorem State.setTable_scratch (o : List Mask) : (s.setTable o).scratch = s.scratch := rfl
@[simp] theorem State.setTable_fb (o : List Mask) : (s.setTable o).fb = s.fb := rfl
@[simp] theorem State.setTable_pending (o : List Mask) : (s.setTable o).pending = s.pending := rfl
@[simp] theorem State.setTable_reply (o : List Mask) : (s.setTable o).reply = s.reply := rfl
@[simp] theorem State.setTable_nextFree (o : List Mask) : (s.setTable o).nextFree = s.nextFree := rfl

/-! ## `setMesh` -/

@[simp] theorem State.setMesh_params (m : Memory Record) (n : Nat) (e : Bool) : (s.setMesh m n e).params = s.params := rfl
@[simp] theorem State.setMesh_fault (m : Memory Record) (n : Nat) (e : Bool) : (s.setMesh m n e).fault = s.fault := rfl
@[simp] theorem State.setMesh_err (m : Memory Record) (n : Nat) (e : Bool) : (s.setMesh m n e).err = s.err := rfl
@[simp] theorem State.setMesh_configured (m : Memory Record) (n : Nat) (e : Bool) : (s.setMesh m n e).configured = s.configured := rfl
@[simp] theorem State.setMesh_tblBuilt (m : Memory Record) (n : Nat) (e : Bool) : (s.setMesh m n e).tblBuilt = s.tblBuilt := rfl
@[simp] theorem State.setMesh_isEmpty (m : Memory Record) (n : Nat) (e : Bool) : (s.setMesh m n e).isEmpty = e := rfl
@[simp] theorem State.setMesh_dsel (m : Memory Record) (n : Nat) (e : Bool) : (s.setMesh m n e).dsel = s.dsel := rfl
@[simp] theorem State.setMesh_faceCount (m : Memory Record) (n : Nat) (e : Bool) : (s.setMesh m n e).faceCount = BitVec.ofNat 18 n := rfl
@[simp] theorem State.setMesh_cx (m : Memory Record) (n : Nat) (e : Bool) : (s.setMesh m n e).cx = s.cx := rfl
@[simp] theorem State.setMesh_cy (m : Memory Record) (n : Nat) (e : Bool) : (s.setMesh m n e).cy = s.cy := rfl
@[simp] theorem State.setMesh_cz (m : Memory Record) (n : Nat) (e : Bool) : (s.setMesh m n e).cz = s.cz := rfl
@[simp] theorem State.setMesh_seed (m : Memory Record) (n : Nat) (e : Bool) : (s.setMesh m n e).seed = s.seed := rfl
@[simp] theorem State.setMesh_noiseCfg (m : Memory Record) (n : Nat) (e : Bool) : (s.setMesh m n e).noiseCfg = s.noiseCfg := rfl
@[simp] theorem State.setMesh_heightBase (m : Memory Record) (n : Nat) (e : Bool) : (s.setMesh m n e).heightBase = s.heightBase := rfl
@[simp] theorem State.setMesh_caveCfg (m : Memory Record) (n : Nat) (e : Bool) : (s.setMesh m n e).caveCfg = s.caveCfg := rfl
@[simp] theorem State.setMesh_grid (m : Memory Record) (n : Nat) (e : Bool) : (s.setMesh m n e).grid = s.grid := rfl
@[simp] theorem State.setMesh_occ (m : Memory Record) (n : Nat) (e : Bool) : (s.setMesh m n e).occ = s.occ := rfl
@[simp] theorem State.setMesh_scratch (m : Memory Record) (n : Nat) (e : Bool) : (s.setMesh m n e).scratch = s.scratch := rfl
@[simp] theorem State.setMesh_fb (m : Memory Record) (n : Nat) (e : Bool) : (s.setMesh m n e).fb = m := rfl
@[simp] theorem State.setMesh_pending (m : Memory Record) (n : Nat) (e : Bool) : (s.setMesh m n e).pending = s.pending := rfl
@[simp] theorem State.setMesh_reply (m : Memory Record) (n : Nat) (e : Bool) : (s.setMesh m n e).reply = s.reply := rfl
@[simp] theorem State.setMesh_nextFree (m : Memory Record) (n : Nat) (e : Bool) : (s.setMesh m n e).nextFree = s.nextFree := rfl

/-! ## `setGridCell` -/

@[simp] theorem State.setGridCell_params (i : Nat) (t : Byte) : (s.setGridCell i t).params = s.params := rfl
@[simp] theorem State.setGridCell_fault (i : Nat) (t : Byte) : (s.setGridCell i t).fault = s.fault := rfl
@[simp] theorem State.setGridCell_err (i : Nat) (t : Byte) : (s.setGridCell i t).err = s.err := rfl
@[simp] theorem State.setGridCell_configured (i : Nat) (t : Byte) : (s.setGridCell i t).configured = s.configured := rfl
@[simp] theorem State.setGridCell_tblBuilt (i : Nat) (t : Byte) : (s.setGridCell i t).tblBuilt = s.tblBuilt := rfl
@[simp] theorem State.setGridCell_isEmpty (i : Nat) (t : Byte) : (s.setGridCell i t).isEmpty = s.isEmpty := rfl
@[simp] theorem State.setGridCell_dsel (i : Nat) (t : Byte) : (s.setGridCell i t).dsel = s.dsel := rfl
@[simp] theorem State.setGridCell_faceCount (i : Nat) (t : Byte) : (s.setGridCell i t).faceCount = s.faceCount := rfl
@[simp] theorem State.setGridCell_cx (i : Nat) (t : Byte) : (s.setGridCell i t).cx = s.cx := rfl
@[simp] theorem State.setGridCell_cy (i : Nat) (t : Byte) : (s.setGridCell i t).cy = s.cy := rfl
@[simp] theorem State.setGridCell_cz (i : Nat) (t : Byte) : (s.setGridCell i t).cz = s.cz := rfl
@[simp] theorem State.setGridCell_seed (i : Nat) (t : Byte) : (s.setGridCell i t).seed = s.seed := rfl
@[simp] theorem State.setGridCell_noiseCfg (i : Nat) (t : Byte) : (s.setGridCell i t).noiseCfg = s.noiseCfg := rfl
@[simp] theorem State.setGridCell_heightBase (i : Nat) (t : Byte) : (s.setGridCell i t).heightBase = s.heightBase := rfl
@[simp] theorem State.setGridCell_caveCfg (i : Nat) (t : Byte) : (s.setGridCell i t).caveCfg = s.caveCfg := rfl
@[simp] theorem State.setGridCell_grid (i : Nat) (t : Byte) : (s.setGridCell i t).grid = s.grid.write i t := rfl
@[simp] theorem State.setGridCell_occ (i : Nat) (t : Byte) : (s.setGridCell i t).occ = s.occ := rfl
@[simp] theorem State.setGridCell_scratch (i : Nat) (t : Byte) : (s.setGridCell i t).scratch = s.scratch := rfl
@[simp] theorem State.setGridCell_fb (i : Nat) (t : Byte) : (s.setGridCell i t).fb = s.fb := rfl
@[simp] theorem State.setGridCell_pending (i : Nat) (t : Byte) : (s.setGridCell i t).pending = s.pending := rfl
@[simp] theorem State.setGridCell_reply (i : Nat) (t : Byte) : (s.setGridCell i t).reply = s.reply := rfl
@[simp] theorem State.setGridCell_nextFree (i : Nat) (t : Byte) : (s.setGridCell i t).nextFree = s.nextFree := rfl

/-! ## `setScratchBlock` -/

@[simp] theorem State.setScratchBlock_params (hs : List Word) : (s.setScratchBlock hs).params = s.params := rfl
@[simp] theorem State.setScratchBlock_fault (hs : List Word) : (s.setScratchBlock hs).fault = s.fault := rfl
@[simp] theorem State.setScratchBlock_err (hs : List Word) : (s.setScratchBlock hs).err = s.err := rfl
@[simp] theorem State.setScratchBlock_configured (hs : List Word) : (s.setScratchBlock hs).configured = s.configured := rfl
@[simp] theorem State.setScratchBlock_tblBuilt (hs : List Word) : (s.setScratchBlock hs).tblBuilt = s.tblBuilt := rfl
@[simp] theorem State.setScratchBlock_isEmpty (hs : List Word) : (s.setScratchBlock hs).isEmpty = s.isEmpty := rfl
@[simp] theorem State.setScratchBlock_dsel (hs : List Word) : (s.setScratchBlock hs).dsel = s.dsel := rfl
@[simp] theorem State.setScratchBlock_faceCount (hs : List Word) : (s.setScratchBlock hs).faceCount = s.faceCount := rfl
@[simp] theorem State.setScratchBlock_cx (hs : List Word) : (s.setScratchBlock hs).cx = s.cx := rfl
@[simp] theorem State.setScratchBlock_cy (hs : List Word) : (s.setScratchBlock hs).cy = s.cy := rfl
@[simp] theorem State.setScratchBlock_cz (hs : List Word) : (s.setScratchBlock hs).cz = s.cz := rfl
@[simp] theorem State.setScratchBlock_seed (hs : List Word) : (s.setScratchBlock hs).seed = s.seed := rfl
@[simp] theorem State.setScratchBlock_noiseCfg (hs : List Word) : (s.setScratchBlock hs).noiseCfg = s.noiseCfg := rfl
@[simp] theorem State.setScratchBlock_heightBase (hs : List Word) : (s.setScratchBlock hs).heightBase = s.heightBase := rfl
@[simp] theorem State.setScratchBlock_caveCfg (hs : List Word) : (s.setScratchBlock hs).caveCfg = s.caveCfg := rfl
@[simp] theorem State.setScratchBlock_grid (hs : List Word) : (s.setScratchBlock hs).grid = s.grid := rfl
@[simp] theorem State.setScratchBlock_occ (hs : List Word) : (s.setScratchBlock hs).occ = s.occ := rfl
@[simp] theorem State.setScratchBlock_scratch (hs : List Word) : (s.setScratchBlock hs).scratch = s.scratch.writeBlock hs := rfl
@[simp] theorem State.setScratchBlock_fb (hs : List Word) : (s.setScratchBlock hs).fb = s.fb := rfl
@[simp] theorem State.setScratchBlock_pending (hs : List Word) : (s.setScratchBlock hs).pending = s.pending := rfl
@[simp] theorem State.setScratchBlock_reply (hs : List Word) : (s.setScratchBlock hs).reply = s.reply := rfl
@[simp] theorem State.setScratchBlock_nextFree (hs : List Word) : (s.setScratchBlock hs).nextFree = s.nextFree := rfl

/-! ## `setGridBlock` -/

@[simp] theorem State.setGridBlock_params (ts : List Byte) : (s.setGridBlock ts).params = s.params := rfl
@[simp] theorem State.setGridBlock_fault (ts : List Byte) : (s.setGridBlock ts).fault = s.fault := rfl
@[simp] theorem State.setGridBlock_err (ts : List Byte) : (s.setGridBlock ts).err = s.err := rfl
@[simp] theorem State.setGridBlock_configured (ts : List Byte) : (s.setGridBlock ts).configured = s.configured := rfl
@[simp] theorem State.setGridBlock_tblBuilt (ts : List Byte) : (s.setGridBlock ts).tblBuilt = s.tblBuilt := rfl
@[simp] theorem State.setGridBlock_isEmpty (ts : List Byte) : (s.setGridBlock ts).isEmpty = s.isEmpty := rfl
@[simp] theorem State.setGridBlock_dsel (ts : List Byte) : (s.setGridBlock ts).dsel = s.dsel := rfl
@[simp] theorem State.setGridBlock_faceCount (ts : List Byte) : (s.setGridBlock ts).faceCount = s.faceCount := rfl
@[simp] theorem State.setGridBlock_cx (ts : List Byte) : (s.setGridBlock ts).cx = s.cx := rfl
@[simp] theorem State.setGridBlock_cy (ts : List Byte) : (s.setGridBlock ts).cy = s.cy := rfl
@[simp] theorem State.setGridBlock_cz (ts : List Byte) : (s.setGridBlock ts).cz = s.cz := rfl
@[simp] theorem State.setGridBlock_seed (ts : List Byte) : (s.setGridBlock ts).seed = s.seed := rfl
@[simp] theorem State.setGridBlock_noiseCfg (ts : List Byte) : (s.setGridBlock ts).noiseCfg = s.noiseCfg := rfl
@[simp] theorem State.setGridBlock_heightBase (ts : List Byte) : (s.setGridBlock ts).heightBase = s.heightBase := rfl
@[simp] theorem State.setGridBlock_caveCfg (ts : List Byte) : (s.setGridBlock ts).caveCfg = s.caveCfg := rfl
@[simp] theorem State.setGridBlock_grid (ts : List Byte) : (s.setGridBlock ts).grid = s.grid.writeBlock ts := rfl
@[simp] theorem State.setGridBlock_occ (ts : List Byte) : (s.setGridBlock ts).occ = s.occ := rfl
@[simp] theorem State.setGridBlock_scratch (ts : List Byte) : (s.setGridBlock ts).scratch = s.scratch := rfl
@[simp] theorem State.setGridBlock_fb (ts : List Byte) : (s.setGridBlock ts).fb = s.fb := rfl
@[simp] theorem State.setGridBlock_pending (ts : List Byte) : (s.setGridBlock ts).pending = s.pending := rfl
@[simp] theorem State.setGridBlock_reply (ts : List Byte) : (s.setGridBlock ts).reply = s.reply := rfl
@[simp] theorem State.setGridBlock_nextFree (ts : List Byte) : (s.setGridBlock ts).nextFree = s.nextFree := rfl

/-! ## `setReply` -/

@[simp] theorem State.setReply_params (r : Reply) : (s.setReply r).params = s.params := rfl
@[simp] theorem State.setReply_fault (r : Reply) : (s.setReply r).fault = s.fault := rfl
@[simp] theorem State.setReply_err (r : Reply) : (s.setReply r).err = s.err := rfl
@[simp] theorem State.setReply_configured (r : Reply) : (s.setReply r).configured = s.configured := rfl
@[simp] theorem State.setReply_tblBuilt (r : Reply) : (s.setReply r).tblBuilt = s.tblBuilt := rfl
@[simp] theorem State.setReply_isEmpty (r : Reply) : (s.setReply r).isEmpty = s.isEmpty := rfl
@[simp] theorem State.setReply_dsel (r : Reply) : (s.setReply r).dsel = s.dsel := rfl
@[simp] theorem State.setReply_faceCount (r : Reply) : (s.setReply r).faceCount = s.faceCount := rfl
@[simp] theorem State.setReply_cx (r : Reply) : (s.setReply r).cx = s.cx := rfl
@[simp] theorem State.setReply_cy (r : Reply) : (s.setReply r).cy = s.cy := rfl
@[simp] theorem State.setReply_cz (r : Reply) : (s.setReply r).cz = s.cz := rfl
@[simp] theorem State.setReply_seed (r : Reply) : (s.setReply r).seed = s.seed := rfl
@[simp] theorem State.setReply_noiseCfg (r : Reply) : (s.setReply r).noiseCfg = s.noiseCfg := rfl
@[simp] theorem State.setReply_heightBase (r : Reply) : (s.setReply r).heightBase = s.heightBase := rfl
@[simp] theorem State.setReply_caveCfg (r : Reply) : (s.setReply r).caveCfg = s.caveCfg := rfl
@[simp] theorem State.setReply_grid (r : Reply) : (s.setReply r).grid = s.grid := rfl
@[simp] theorem State.setReply_occ (r : Reply) : (s.setReply r).occ = s.occ := rfl
@[simp] theorem State.setReply_scratch (r : Reply) : (s.setReply r).scratch = s.scratch := rfl
@[simp] theorem State.setReply_fb (r : Reply) : (s.setReply r).fb = s.fb := rfl
@[simp] theorem State.setReply_pending (r : Reply) : (s.setReply r).pending = s.pending := rfl
@[simp] theorem State.setReply_reply (r : Reply) : (s.setReply r).reply = some r := rfl
@[simp] theorem State.setReply_nextFree (r : Reply) : (s.setReply r).nextFree = s.nextFree := rfl

/-! ## `consume` -/

@[simp] theorem State.consume_params (es : List HostEvent) : (s.consume es).params = s.params := rfl
@[simp] theorem State.consume_fault (es : List HostEvent) : (s.consume es).fault = s.fault := rfl
@[simp] theorem State.consume_err (es : List HostEvent) : (s.consume es).err = s.err := rfl
@[simp] theorem State.consume_configured (es : List HostEvent) : (s.consume es).configured = s.configured := rfl
@[simp] theorem State.consume_tblBuilt (es : List HostEvent) : (s.consume es).tblBuilt = s.tblBuilt := rfl
@[simp] theorem State.consume_isEmpty (es : List HostEvent) : (s.consume es).isEmpty = s.isEmpty := rfl
@[simp] theorem State.consume_dsel (es : List HostEvent) : (s.consume es).dsel = s.dsel := rfl
@[simp] theorem State.consume_faceCount (es : List HostEvent) : (s.consume es).faceCount = s.faceCount := rfl
@[simp] theorem State.consume_cx (es : List HostEvent) : (s.consume es).cx = s.cx := rfl
@[simp] theorem State.consume_cy (es : List HostEvent) : (s.consume es).cy = s.cy := rfl
@[simp] theorem State.consume_cz (es : List HostEvent) : (s.consume es).cz = s.cz := rfl
@[simp] theorem State.consume_seed (es : List HostEvent) : (s.consume es).seed = s.seed := rfl
@[simp] theorem State.consume_noiseCfg (es : List HostEvent) : (s.consume es).noiseCfg = s.noiseCfg := rfl
@[simp] theorem State.consume_heightBase (es : List HostEvent) : (s.consume es).heightBase = s.heightBase := rfl
@[simp] theorem State.consume_caveCfg (es : List HostEvent) : (s.consume es).caveCfg = s.caveCfg := rfl
@[simp] theorem State.consume_grid (es : List HostEvent) : (s.consume es).grid = s.grid := rfl
@[simp] theorem State.consume_occ (es : List HostEvent) : (s.consume es).occ = s.occ := rfl
@[simp] theorem State.consume_scratch (es : List HostEvent) : (s.consume es).scratch = s.scratch := rfl
@[simp] theorem State.consume_fb (es : List HostEvent) : (s.consume es).fb = s.fb := rfl
@[simp] theorem State.consume_pending (es : List HostEvent) : (s.consume es).pending = es := rfl
@[simp] theorem State.consume_reply (es : List HostEvent) : (s.consume es).reply = none := rfl
@[simp] theorem State.consume_nextFree (es : List HostEvent) : (s.consume es).nextFree = s.nextFree := rfl

/-! ## `loseResults` -/

@[simp] theorem State.loseResults_params : (s.loseResults).params = s.params := rfl
@[simp] theorem State.loseResults_fault : (s.loseResults).fault = s.fault := rfl
@[simp] theorem State.loseResults_err : (s.loseResults).err = s.err := rfl
@[simp] theorem State.loseResults_configured : (s.loseResults).configured = s.configured := rfl
@[simp] theorem State.loseResults_tblBuilt : (s.loseResults).tblBuilt = s.tblBuilt := rfl
@[simp] theorem State.loseResults_isEmpty : (s.loseResults).isEmpty = Config.freeIsEmpty s.nextFree := rfl
@[simp] theorem State.loseResults_dsel : (s.loseResults).dsel = s.dsel := rfl
@[simp] theorem State.loseResults_faceCount : (s.loseResults).faceCount = Config.freeFaceCount s.nextFree := rfl
@[simp] theorem State.loseResults_cx : (s.loseResults).cx = s.cx := rfl
@[simp] theorem State.loseResults_cy : (s.loseResults).cy = s.cy := rfl
@[simp] theorem State.loseResults_cz : (s.loseResults).cz = s.cz := rfl
@[simp] theorem State.loseResults_seed : (s.loseResults).seed = s.seed := rfl
@[simp] theorem State.loseResults_noiseCfg : (s.loseResults).noiseCfg = s.noiseCfg := rfl
@[simp] theorem State.loseResults_heightBase : (s.loseResults).heightBase = s.heightBase := rfl
@[simp] theorem State.loseResults_caveCfg : (s.loseResults).caveCfg = s.caveCfg := rfl
@[simp] theorem State.loseResults_grid : (s.loseResults).grid = s.grid := rfl
@[simp] theorem State.loseResults_occ : (s.loseResults).occ = s.occ := rfl
@[simp] theorem State.loseResults_scratch : (s.loseResults).scratch = s.scratch := rfl
@[simp] theorem State.loseResults_fb : (s.loseResults).fb = Memory.unspecified s.nextFree := rfl
@[simp] theorem State.loseResults_pending : (s.loseResults).pending = s.pending := rfl
@[simp] theorem State.loseResults_reply : (s.loseResults).reply = s.reply := rfl
@[simp] theorem State.loseResults_nextFree : (s.loseResults).nextFree = s.nextFree + 1 := rfl

/-! ## `writeReg`: what it never reaches -/

@[simp] theorem writeReg_params (v : Word) (r : Reg) : (writeReg s v r).params = s.params := by cases r <;> rfl
@[simp] theorem writeReg_fault (v : Word) (r : Reg) : (writeReg s v r).fault = s.fault := by cases r <;> rfl
@[simp] theorem writeReg_err (v : Word) (r : Reg) : (writeReg s v r).err = s.err := by cases r <;> rfl
@[simp] theorem writeReg_configured (v : Word) (r : Reg) : (writeReg s v r).configured = s.configured := by cases r <;> rfl
@[simp] theorem writeReg_tblBuilt (v : Word) (r : Reg) : (writeReg s v r).tblBuilt = s.tblBuilt := by cases r <;> rfl
@[simp] theorem writeReg_isEmpty (v : Word) (r : Reg) : (writeReg s v r).isEmpty = s.isEmpty := by cases r <;> rfl
@[simp] theorem writeReg_dsel (v : Word) (r : Reg) : (writeReg s v r).dsel = s.dsel := by cases r <;> rfl
@[simp] theorem writeReg_faceCount (v : Word) (r : Reg) : (writeReg s v r).faceCount = s.faceCount := by cases r <;> rfl
@[simp] theorem writeReg_grid (v : Word) (r : Reg) : (writeReg s v r).grid = s.grid := by cases r <;> rfl
@[simp] theorem writeReg_occ (v : Word) (r : Reg) : (writeReg s v r).occ = s.occ := by cases r <;> rfl
@[simp] theorem writeReg_scratch (v : Word) (r : Reg) : (writeReg s v r).scratch = s.scratch := by cases r <;> rfl
@[simp] theorem writeReg_fb (v : Word) (r : Reg) : (writeReg s v r).fb = s.fb := by cases r <;> rfl
@[simp] theorem writeReg_pending (v : Word) (r : Reg) : (writeReg s v r).pending = s.pending := by cases r <;> rfl
@[simp] theorem writeReg_reply (v : Word) (r : Reg) : (writeReg s v r).reply = s.reply := by cases r <;> rfl
@[simp] theorem writeReg_nextFree (v : Word) (r : Reg) : (writeReg s v r).nextFree = s.nextFree := by cases r <;> rfl

/-! ## Reading an element is reading its memory -/

theorem gridAt_congr {s t : State} (h : t.grid = s.grid) (i : Nat) : gridAt t i = gridAt s i := by
  simp only [gridAt, h]

theorem scratchAt_congr {s t : State} (h : t.scratch = s.scratch) (c : Nat) : scratchAt t c = scratchAt s c := by
  simp only [scratchAt, h]

theorem fbAt_congr {s t : State} (h : t.fb = s.fb) (k : Nat) : fbAt t k = fbAt s k := by
  simp only [fbAt, h]

theorem occAt_congr {s t : State} (h : t.occ = s.occ) (k : Nat) : occAt t k = occAt s k := by
  simp only [occAt, h]

end Sys2Proof.Machine
end

