-- ==== Sys2Proof/Laws/Ops.lean ====
section
/-! SUPPORT. Once for each shared operation: everything it can do. -/

namespace Sys2Proof.Machine

/-! ## One element -/

theorem gridAt_setGridCell (s : State) (i j : Nat) (t : Byte) :
    gridAt (s.setGridCell i t) j = if i = j then t else gridAt s j := by
  by_cases h : i = j <;> simp [gridAt, h]

theorem gridAt_setGridBlock (s : State) (ts : List Byte) (j : Nat) :
    gridAt (s.setGridBlock ts) j = if h : j < ts.length then ts[j] else gridAt s j := by
  by_cases h : j < ts.length <;> simp [gridAt, Memory.lookup_writeBlock, h]

theorem scratchAt_setScratchBlock (s : State) (hs : List Word) (j : Nat) :
    scratchAt (s.setScratchBlock hs) j = if h : j < hs.length then hs[j] else scratchAt s j := by
  by_cases h : j < hs.length <;> simp [scratchAt, Memory.lookup_writeBlock, h]

theorem fbAt_setMesh (s : State) (rs : List Record) (n : Nat) (e : Bool) (j : Nat) :
    fbAt (s.setMesh (s.fb.writeBlock rs) n e) j = if h : j < rs.length then rs[j] else fbAt s j := by
  by_cases h : j < rs.length <;> simp [fbAt, Memory.lookup_writeBlock, h]

/-! ## The halt and the fault -/

theorem whileRunning_halted {s : State} (h : s.fault = true) (body : State → Outcome) :
    whileRunning s body = .next s := by simp [whileRunning, h]

theorem whileRunning_running {s : State} (h : s.fault = false) (body : State → Outcome) :
    whileRunning s body = body s := by simp [whileRunning, h]

/-- A gated body gives a state only by the halt, or by itself. -/
theorem whileRunning_next {s t : State} {body : State → Outcome} (h : whileRunning s body = .next t) :
    (s.fault = true ∧ t = s) ∨ (s.fault = false ∧ body s = .next t) := by
  cases hf : s.fault
  · exact .inr ⟨rfl, by rwa [whileRunning_running hf] at h⟩
  · rw [whileRunning_halted hf] at h
    exact .inl ⟨rfl, by injection h with h; exact h.symm⟩

theorem raiseFault_next {c : ErrCode} {s t : State} (h : raiseFault c s = .next t) : t = s.setFault c := by
  injection h with h
  exact h.symm

/-- Every fault code is 1 to 6. -/
theorem ErrCode.code_range (c : ErrCode) : c.code ≠ 0 ∧ c.code.toNat ≤ 6 := by cases c <;> decide

/-! ## Reset -/

@[simp] theorem resetEvent_params (s : State) : (resetEvent s).params = s.params := rfl

@[simp] theorem resetEvent_pending (s : State) : (resetEvent s).pending = s.pending := rfl

end Sys2Proof.Machine
end

