-- ==== Sys2Proof/Laws/Exec.lean ====
section
/-! SUPPORT. Each command: everything it can do, said once (the pseudocode of its rule as cases). -/

namespace Sys2Proof.Machine

/-- `CONFIG` (40_config_and_table.md R90, R91). -/
theorem execConfig_cases {d : BitVec 3} {s t : State} (h : exec (.config d) s = .next t) :
    (s.fault = true ∧ t = s) ∨
    (s.fault = false ∧ (d.toNat < 1 ∨ 5 < d.toNat) ∧ t = s.setFault .badDim) ∨
    (s.fault = false ∧ 1 ≤ d.toNat ∧ d.toNat ≤ 5 ∧ s.params.scratchDepth < dimOf d * dimOf d ∧
      t = s.setFault .alloc) ∨
    (s.fault = false ∧ 1 ≤ d.toNat ∧ d.toNat ≤ 5 ∧ dimOf d * dimOf d ≤ s.params.scratchDepth ∧
      t = s.setConfigured d) := by
  simp only [exec, execConfig] at h
  rcases whileRunning_next h with h | ⟨hf, h⟩
  · exact .inl h
  · split at h
    · exact .inr (.inl ⟨hf, ‹_›, raiseFault_next h⟩)
    · split at h
      · exact .inr (.inr (.inl ⟨hf, by omega, by omega, ‹_›, raiseFault_next h⟩))
      · injection h with h
        exact .inr (.inr (.inr ⟨hf, by omega, by omega, by omega, h.symm⟩))

/-- `BUILD_TABLE` (40_config_and_table.md R93, R95). -/
theorem execBuildTable_cases {s t : State} (h : exec .buildTable s = .next t) :
    (s.fault = true ∧ t = s) ∨
    (s.fault = false ∧ s.tblBuilt = true ∧ t = s.setFault .tableRebuilt) ∨
    (s.fault = false ∧ s.tblBuilt = false ∧ t = s.setTable (occInitTable s.params)) := by
  simp only [exec, execBuildTable] at h
  rcases whileRunning_next h with h | ⟨hf, h⟩
  · exact .inl h
  · cases hb : s.tblBuilt <;> simp only [hb, if_true, Bool.false_eq_true, if_false] at h
    · injection h with h
      exact .inr (.inr ⟨hf, rfl, h.symm⟩)
    · exact .inr (.inl ⟨hf, rfl, raiseFault_next h⟩)

/-- `GENERATE` (41_generator.md R110, R111). -/
theorem execGenerate_cases {s t : State} (h : exec .generate s = .next t) :
    (s.fault = true ∧ t = s) ∨
    (s.fault = false ∧ s.configured = false ∧ t = s.setFault .badDim) ∨
    (s.fault = false ∧ s.configured = true ∧ t = generated s) := by
  simp only [exec, execGenerate] at h
  rcases whileRunning_next h with h | ⟨hf, h⟩
  · exact .inl h
  · cases hc : s.configured <;> simp only [hc, Bool.not_true, Bool.not_false, if_true, Bool.false_eq_true, if_false] at h
    · exact .inr (.inl ⟨hf, rfl, raiseFault_next h⟩)
    · injection h with h
      exact .inr (.inr ⟨hf, rfl, h.symm⟩)

/-- `MESH` (42_mesher.md R140 to R142). -/
theorem execMesh_cases {s t : State} (h : exec .mesh s = .next t) :
    (s.fault = true ∧ t = s) ∨
    (s.fault = false ∧ s.configured = false ∧ t = s.setFault .badDim) ∨
    (s.fault = false ∧ s.configured = true ∧ s.tblBuilt = false ∧ t = s.setFault .tableUnbuilt) ∨
    (s.fault = false ∧ s.configured = true ∧ s.tblBuilt = true ∧ hasBadType s = true ∧
      t = s.loseResults.setFault .badType) ∨
    (s.fault = false ∧ s.configured = true ∧ s.tblBuilt = true ∧ hasBadType s = false ∧ t = meshed s) := by
  simp only [exec, execMesh] at h
  rcases whileRunning_next h with h | ⟨hf, h⟩
  · exact .inl h
  · cases hc : s.configured
    · simp only [hc, Bool.not_false, if_true] at h
      exact .inr (.inl ⟨hf, rfl, raiseFault_next h⟩)
    · cases hb : s.tblBuilt
      · simp only [hc, hb, Bool.not_true, Bool.not_false, if_true, Bool.false_eq_true, if_false] at h
        exact .inr (.inr (.inl ⟨hf, rfl, rfl, raiseFault_next h⟩))
      · cases ht : hasBadType s <;>
          simp only [hc, hb, ht, Bool.not_true, if_true, Bool.false_eq_true, if_false] at h
        · injection h with h
          exact .inr (.inr (.inr (.inr ⟨hf, rfl, rfl, rfl, h.symm⟩)))
        · exact .inr (.inr (.inr (.inl ⟨hf, rfl, rfl, rfl, raiseFault_next h⟩)))

/-- A command always answers a next state: it neither stops the machine nor is refused. -/
theorem exec_total (i : Instr) (s : State) : ∃ t, exec i s = .next t := by
  cases i with
  | config d =>
    simp only [exec, execConfig, whileRunning, raiseFault]
    split_ifs <;> exact ⟨_, rfl⟩
  | buildTable =>
    simp only [exec, execBuildTable, whileRunning, raiseFault]
    split_ifs <;> exact ⟨_, rfl⟩
  | generate =>
    simp only [exec, execGenerate, whileRunning, raiseFault]
    split_ifs <;> exact ⟨_, rfl⟩
  | mesh =>
    simp only [exec, execMesh, whileRunning, raiseBadType, raiseFault]
    split_ifs <;> exact ⟨_, rfl⟩

end Sys2Proof.Machine
end

