-- ==== Sys2Proof/Laws/Generate.lean ====
section
/-! SUPPORT. The two passes of `GENERATE`, read one element at a time. -/

namespace Sys2Proof.Machine

@[simp] theorem columnHeights_length (s : State) (d : Nat) : (columnHeights s d).length = d * d := by
  simp [columnHeights, List.length_flatMap]

/-- Rows of `d` values one after another: row `z`, place `x`. -/
theorem rows_getElem? {α : Type} (d : Nat) (f : Nat → Nat → α) (n z x : Nat) (hz : z < n) (hx : x < d) :
    ((List.range n).flatMap fun z => (List.range d).map (f z))[z * d + x]? = some (f z x) := by
  induction n with
  | zero => omega
  | succ n ih =>
    rw [List.range_succ, List.flatMap_append]
    have hl : ((List.range n).flatMap fun z => (List.range d).map (f z)).length = n * d := by
      simp [List.length_flatMap]
    rcases Nat.lt_succ_iff_lt_or_eq.1 hz with h | rfl
    · rw [List.getElem?_append_left (by rw [hl]; nlinarith)]
      exact ih h
    · rw [List.getElem?_append_right (by rw [hl]; omega), hl]
      simp [hx]

/-- Pass 1: the height of a column. -/
theorem scratchAt_generated (s : State) (x z : Nat) (hx : x < s.dim) (hz : z < s.dim) :
    scratchAt (generated s) (z * s.dim + x) = height s (worldCoord s.cx s.dim x) (worldCoord s.cz s.dim z) := by
  have h1 : scratchAt (generated s) (z * s.dim + x)
      = scratchAt (s.setScratchBlock (columnHeights s s.dim)) (z * s.dim + x) := rfl
  have hl : z * s.dim + x < (columnHeights s s.dim).length := by rw [columnHeights_length]; nlinarith
  have h2 : (columnHeights s s.dim)[z * s.dim + x]?
      = some (height s (worldCoord s.cx s.dim x) (worldCoord s.cz s.dim z)) :=
    rows_getElem? s.dim (fun z x => height s (worldCoord s.cx s.dim x) (worldCoord s.cz s.dim z)) s.dim z x hz hx
  rw [List.getElem?_eq_getElem hl] at h2
  rw [h1, scratchAt_setScratchBlock, dif_pos hl, Option.some.inj h2]

/-- Pass 2: a cell of the chunk, computed after pass 1. -/
theorem gridAt_generated (s : State) (i : Nat) (hi : i < s.dim ^ 3) :
    gridAt (generated s) i = cellAt (s.setScratchBlock (columnHeights s s.dim)) s.dim i := by
  have h1 : generated s = (s.setScratchBlock (columnHeights s s.dim)).setGridBlock
      ((List.range (s.dim ^ 3)).map (cellAt (s.setScratchBlock (columnHeights s s.dim)) s.dim)) := rfl
  rw [h1, gridAt_setGridBlock, dif_pos (by simpa using hi)]
  simp

/-- The types of two states with the same generator parameters agree. -/
theorem cellType_congr {s t : State} (h1 : s.seed = t.seed) (h2 : s.caveCfg = t.caveCfg) : cellType s = cellType t := by
  funext a b c d
  unfold cellType carved caveEn caveThr caveShift
  rw [h1, h2]

theorem height_congr {s t : State} (h1 : s.seed = t.seed) (h2 : s.noiseCfg = t.noiseCfg)
    (h3 : s.heightBase = t.heightBase) : height s = height t := by
  funext a b
  unfold height freqShift amp
  rw [h1, h2, h3]

end Sys2Proof.Machine
end

