-- ==== Sys2Proof/Laws/Mesh.lean ====
section
/-! SUPPORT. The scan of `MESH`: which faces it lists, how many, and what a successful scan leaves in `FB`. -/

namespace Sys2Proof.Machine

theorem solid_iff (t : Byte) : solid t = true ↔ t ≠ 0 ∧ t ≠ 1 := by
  simp [solid, BlockType.air, BlockType.caveAir]

theorem inChunk_iff (s : State) (j : Int) : inChunk s j = true ↔ 0 ≤ j ∧ j < (s.cellCount : Int) := by
  simp [inChunk]

theorem hasBadType_iff (s : State) :
    hasBadType s = true ↔ ∃ i, i < s.cellCount ∧ s.params.nTypes ≤ (gridAt s i).toNat := by
  simp [hasBadType]

theorem dir_code_le (d : Dir) : d.code ≤ 5 := by cases d <;> decide

theorem aoLevel_le (s : State) (i : Nat) (d : Dir) (c : Nat) : aoLevel s i d c ≤ 3 := by
  simp only [aoLevel]
  exact min_le_right _ _

/-- With a held dimension the chunk has at most 32768 cells. -/
theorem cellCount_le {s : State} (h : s.dsel.toNat ≤ 5) : s.cellCount ≤ 32768 := by
  simp only [State.cellCount, State.dim, dimOf]
  generalize s.dsel.toNat = n at *
  interval_cases n <;> decide

theorem mem_visibleFaces (s : State) (i : Nat) (d : Dir) :
    (i, d) ∈ visibleFaces s ↔ i < s.cellCount ∧ faceVisible s i d = true := by
  simp only [visibleFaces, List.mem_flatMap, List.mem_range, cellFaces, List.mem_map, List.mem_filter, Prod.mk.injEq]
  constructor
  · rintro ⟨j, hj, e, ⟨_, he⟩, rfl, rfl⟩
    exact ⟨hj, he⟩
  · rintro ⟨h1, h2⟩
    exact ⟨i, h1, d, ⟨by cases d <;> simp [Dir.all], h2⟩, rfl, rfl⟩

theorem cellFaces_length_le (s : State) (i : Nat) : (cellFaces s i).length ≤ 6 := by
  simp only [cellFaces, List.length_map]
  exact (List.length_filter_le _ _).trans (by simp [Dir.all])

theorem visibleFaces_length_le (s : State) : (visibleFaces s).length ≤ 6 * s.cellCount := by
  simp only [visibleFaces, List.length_flatMap]
  have h : ∀ l : List Nat, (l.map fun i => (cellFaces s i).length).sum ≤ 6 * l.length := by
    intro l
    induction l with
    | nil => simp
    | cons a l ih =>
      have := cellFaces_length_le s a
      simp only [List.map_cons, List.sum_cons, List.length_cons]
      omega
  simpa using h (List.range s.cellCount)

@[simp] theorem meshRecords_length (s : State) : (meshRecords s).length = (visibleFaces s).length := by
  simp [meshRecords]

/-- The count of a successful scan loses nothing in its 18 bits. -/
theorem meshed_faceCount {s : State} (hd : s.dsel.toNat ≤ 5) :
    (meshed s).faceCount.toNat = (visibleFaces s).length := by
  have h1 := visibleFaces_length_le s
  have h2 := cellCount_le hd
  simp only [meshed, State.setMesh_faceCount, meshRecords_length, BitVec.toNat_ofNat]
  exact Nat.mod_eq_of_lt (by omega)

theorem fbAt_meshed (s : State) (k : Nat) :
    fbAt (meshed s) k =
      if h : k < (visibleFaces s).length then recordOf s (visibleFaces s)[k].1 (visibleFaces s)[k].2
      else fbAt s k := by
  rw [meshed, fbAt_setMesh]
  simp [meshRecords]

/-- A chunk without a solid cell lists no face. -/
theorem visibleFaces_of_meshEmpty {s : State} (h : meshEmpty s = true) : visibleFaces s = [] := by
  apply List.eq_nil_iff_forall_not_mem.2
  rintro ⟨i, d⟩ hm
  obtain ⟨h1, h2⟩ := (mem_visibleFaces s i d).1 hm
  simp only [meshEmpty, List.all_eq_true, List.mem_range] at h
  have := h i h1
  simp only [faceVisible, Bool.and_eq_true] at h2
  simp [h2.1.1] at this

end Sys2Proof.Machine
end

