-- ==== Sys2Proof/Laws/PerInstr.lean ====
section
/-! SUPPORT. Statements made once per instruction. -/

namespace Sys2Proof.Laws.TableRow

/-- The word of an instruction is a word of its own row of the opcode map and of no other (30_encoding.md R61). -/
def Statement (i : Instr) : Prop :=
  (opcodeRows.filter fun r => r.covers (encode i)).map (·.mnemonic) =
    [match i with
      | .config _ => "CONFIG"
      | .buildTable => "BUILD_TABLE"
      | .generate => "GENERATE"
      | .mesh => "MESH"]

theorem config (d : BitVec 3) : Statement (.config d) := by
  unfold Statement
  revert d
  decide

theorem buildTable : Statement .buildTable := by unfold Statement; decide

theorem generate : Statement .generate := by unfold Statement; decide

theorem mesh : Statement .mesh := by unfold Statement; decide

end Sys2Proof.Laws.TableRow
end

