-- ==== Sys2Proof/Laws/Step.lean ====
section
/-! SUPPORT. The host port and the step: everything they can do, said once. -/

namespace Sys2Proof.Machine

theorem step_idle {s : State} (h : s.pending = []) : step s = .next s := by simp [step, h]

theorem step_cons {s : State} {e : HostEvent} {rest : List HostEvent} (h : s.pending = e :: rest) :
    step s = perform e (s.consume rest) := by simp [step, h]

/-- The register map read both ways. -/
@[simp] theorem regOfOffset_offsetOf (r : Reg) : regOfOffset (offsetOf r) = some r := by cases r <;> rfl

/-- A host write of a word to `CMD` gives a state only through the command of the word, or as a word that is none. -/
theorem issue_cases {w : Word} {s t : State} (h : issue w s = .next t) :
    (∃ i, decode w = .ok i ∧ exec i s = .next t) ∨
    (∃ e, decode w = .error e ∧ ((s.fault = true ∧ t = s) ∨ (s.fault = false ∧ t = s.setFault .badCmd))) := by
  unfold issue at h
  split at h
  · exact .inl ⟨_, ‹_›, h⟩
  · refine .inr ⟨_, ‹_›, ?_⟩
    rcases whileRunning_next h with h | ⟨hf, h⟩
    · exact .inl h
    · exact .inr ⟨hf, raiseFault_next h⟩

/-- A transaction gives a state only in one of these ways. -/
theorem transact_cases {x : Transaction} {s t : State} (h : transact x s = .next t) :
    (∃ w, x = .writeReg 0 w ∧ issue w s = .next t) ∨
    (∃ off v r, x = .writeReg off v ∧ regOfOffset off = some r ∧ r ≠ .cmd ∧ t = writeReg s v r) ∨
    (∃ i v, x = .writeGrid i v ∧ i < Config.gridDepth ∧ t = s.setGridCell i v) ∨
    (∃ r, t = s.setReply r) := by
  cases x with
  | writeReg off v =>
    simp only [transact] at h
    split at h
    · rename_i r hr
      cases r with
      | cmd =>
        have hoff : off = 0 := by
          unfold regOfOffset at hr
          split at hr <;> first | rfl | cases hr
        subst hoff
        exact .inl ⟨v, rfl, h⟩
      | _ =>
        injection h with h
        exact .inr (.inl ⟨off, v, _, rfl, hr, by simp, h.symm⟩)
    · cases h
  | readReg off =>
    simp only [transact] at h
    split at h
    · injection h with h
      exact .inr (.inr (.inr ⟨_, h.symm⟩))
    · cases h
  | writeGrid i v =>
    simp only [transact] at h
    split at h
    · injection h with h
      exact .inr (.inr (.inl ⟨i, v, rfl, ‹_›, h.symm⟩))
    · cases h
  | readGrid i =>
    simp only [transact] at h
    split at h
    · injection h with h
      exact .inr (.inr (.inr ⟨_, h.symm⟩))
    · cases h
  | readOcc k =>
    simp only [transact] at h
    split at h
    · injection h with h
      exact .inr (.inr (.inr ⟨_, h.symm⟩))
    · cases h
  | readFb k =>
    simp only [transact] at h
    split at h
    · injection h with h
      exact .inr (.inr (.inr ⟨_, h.symm⟩))
    · cases h

/-- A step gives a state only by idling, by a reset, or by a transaction. -/
theorem step_cases {s t : State} (h : step s = .next t) :
    (s.pending = [] ∧ t = s) ∨
    (∃ rest, s.pending = .reset :: rest ∧ t = resetEvent (s.consume rest)) ∨
    (∃ x rest, s.pending = .txn x :: rest ∧ transact x (s.consume rest) = .next t) := by
  cases hp : s.pending with
  | nil =>
    rw [step_idle hp] at h
    injection h with h
    exact .inl ⟨rfl, h.symm⟩
  | cons e rest =>
    rw [step_cons hp] at h
    cases e with
    | reset =>
      injection h with h
      exact .inr (.inl ⟨rest, rfl, h.symm⟩)
    | txn x => exact .inr (.inr ⟨x, rest, rfl, h⟩)

/-! ## Running the host's core -/

@[simp] theorem core_run_zero (s : State) : Sys2Proof.core.run 0 s = .next s := rfl

/-- A run goes on from the state its first step gives. -/
theorem core_run_next {s t : State} (h : step s = .next t) (k : Nat) :
    Sys2Proof.core.run (k + 1) s = Sys2Proof.core.run k t := by
  have hc : Sys2Proof.core.step s = .next t := h
  simp only [Host.Core.run, hc]

end Sys2Proof.Machine
end

