-- ==== Sys2Proof/Tests/Slice0.lean ====
section
/-! SUPPORT. The model's own tests (expected values from spec/95_test_vectors.md, each vector named) and, for each obligation
with hypotheses, a witness: a concrete state and operands that meet them all. -/

namespace Sys2Proof.Tests

open Sys2Proof Sys2Proof.Machine

/-! ## Small states -/

/-- Parameters with six types, the last covering only its own top side (vector M8). -/
def sixTypes : Params where
  nTypes := 6
  occInit := [0x00, 0x00, 0x3F, 0x3F, 0x3F, 0x04]
  materials := (List.range 36).map fun k => BitVec.ofNat 8 (8 * (k / 6) + k % 6)
  scratchDepth := 1024

/-- The reference parameters with a scratch memory too small for `D = 32` (vectors F14, F15). -/
def smallScratch : Params := { Params.reference with scratchDepth := 256 }

/-- Configured and built, with the given cells from index 0. -/
def ready (p : Params) (dsel : BitVec 3) (cells : List Byte) : State :=
  { State.powerOn p 0 [] with
    configured := true
    tblBuilt := true
    dsel := dsel
    occ := occInitTable p
    grid := ⟨0, numberFrom 0 cells⟩ }

/-- `n` cells of air with some cells replaced. -/
def airBut (n : Nat) (cells : List (Nat × Byte)) : List Byte :=
  (List.range n).map fun i => (lookupCell i cells).getD 0

/-- The halted state of vector F3. -/
def halted : State := (ready Params.reference 2 []).setFault .tableUnbuilt

/-- `s` with these events to come. -/
def asked (s : State) (es : List HostEvent) : State := { s with pending := es }

/-- The state an outcome gives, `State.reset` if none. -/
def got (o : Outcome) : State := (nextState o).getD State.reset

/-- Is the outcome the refusal of a request outside the map? -/
def refuses : Outcome → Bool
  | .refused .outsideMap => true
  | _ => false

/-! ## WellFormed: an ill-formed term for each check -/

theorem test_reference_wellFormed : Params.reference.wellFormed = true ∧ sixTypes.wellFormed = true := by decide

theorem test_params_refused :
    ({ Params.reference with nTypes := 4, occInit := [0, 0, 1, 1], materials := List.replicate 24 0 }).wellFormed = false ∧
    ({ Params.reference with nTypes := 257, occInit := [0, 0] ++ List.replicate 255 1
                             materials := List.replicate 1542 0 }).wellFormed = false ∧
    ({ Params.reference with occInit := [0, 0, 1, 1] }).wellFormed = false ∧
    ({ Params.reference with occInit := [0, 1, 1, 1, 1] }).wellFormed = false ∧
    ({ Params.reference with occInit := [0, 0, 1, 0, 1] }).wellFormed = false ∧
    ({ Params.reference with materials := List.replicate 29 0 }).wellFormed = false ∧
    ({ Params.reference with scratchDepth := 3 }).wellFormed = false := by decide +kernel

theorem test_transactions_refused :
    (Transaction.writeReg 0x12 0).wellFormed Params.reference = false ∧
    (Transaction.readReg 0x2C).wellFormed Params.reference = false ∧
    (Transaction.writeGrid 32768 0).wellFormed Params.reference = false ∧
    (Transaction.readGrid 32768).wellFormed Params.reference = false ∧
    (Transaction.readOcc 5).wellFormed Params.reference = false ∧
    (Transaction.readFb 196608).wellFormed Params.reference = false := by decide

theorem test_transactions_accepted :
    (Transaction.writeReg 0x28 0).wellFormed Params.reference = true ∧
    (Transaction.readGrid 32767).wellFormed Params.reference = true ∧
    (Transaction.readOcc 4).wellFormed Params.reference = true ∧
    (Transaction.readFb 196607).wellFormed Params.reference = true ∧
    HostEvent.reset.wellFormed Params.reference = true := by decide

theorem test_script_lines_refused :
    (ScriptLine.config 3).wellFormed 0 = false ∧ (ScriptLine.configRaw 8).wellFormed 0 = false ∧
    (ScriptLine.cmd (2 ^ 32)).wellFormed 0 = false ∧ (ScriptLine.wr .cx (-2 ^ 31 - 1)).wellFormed 0 = false ∧
    (ScriptLine.wrg 0 256).wellFormed 0 = false ∧ (ScriptLine.setchunk 0 (2 ^ 32) 0).wellFormed 0 = false ∧
    (ScriptLine.setnoise 8 0).wellFormed 0 = false ∧ (ScriptLine.setcave 2 0 0).wellFormed 0 = false ∧
    (ScriptLine.fillg 0 0 256).wellFormed 0 = false ∧ (ScriptLine.wrc 4 0 0 0).wellFormed 4 = false := by decide

/-! ## Decoding: words written out from 30_encoding.md R60, R61 -/

theorem test_decode_config : decode 0b00000000000000000000000000100001 = .ok (.config 2) := by decide
theorem test_decode_build_table : decode 0b00000000000000000000000000000010 = .ok .buildTable := by decide
theorem test_decode_generate : decode 0b00000000000000000000000000000011 = .ok .generate := by decide
theorem test_decode_mesh : decode 0b00000000000000000000000000000100 = .ok .mesh := by decide

/-- Vectors F6 to F9, each refused by name. -/
theorem test_decode_refuses :
    decode 0x00000005 = .error .reservedOpcode ∧ decode 0x00000000 = .error .reservedOpcode ∧
    decode 0x00000012 = .error .operandBits ∧ decode 0x00000081 = .error .zeroBits ∧
    decodeBytes [0x21, 0x00, 0x00] = .error .truncated := by decide

/-- Little-endian on a byte bus (20_memory.md R49). -/
theorem test_decode_bytes : decodeBytes [0x51, 0x00, 0x00, 0x00, 0xAA] = .ok (.config 5, [0xAA]) := by decide

/-! ## The instructions, one step each -/

/-- Vector K2: `DIM` and `STATUS` after `config 4`. -/
theorem test_config_four :
    let t := got (step (State.reset.withFetchWord 32 0x21))
    readReg t .dim = 0x19060402 ∧ readReg t .status = 0x0000000A := by decide

/-- Vector F14: `D = 32` needs 1024 entries of scratch. -/
theorem test_config_alloc :
    let t := got (exec (.config 5) (State.powerOn smallScratch 0 []))
    readReg t .status = 0x00000039 ∧ readReg t .dim = 0 := by decide

/-- Vector K6. -/
theorem test_build_table :
    let t := got (exec .buildTable State.reset)
    t.occ = [0x00, 0x00, 0x3F, 0x3F, 0x3F] ∧ readReg t .status = 0x0000000C := by decide

/-- Vector F5. -/
theorem test_build_table_twice :
    let t := got (exec .buildTable { State.reset with tblBuilt := true, occ := occInitTable Params.reference })
    readReg t .status = 0x0000005D ∧ occAt t 2 = 0x3F := by decide

/-- Vector G5: the column heights (by `z`, then `x`), and the cells of columns (3,0) and (0,3). -/
theorem test_generate_heights :
    let t := got (exec .generate { ready Params.reference 2 [] with seed := 0x12345678, noiseCfg := 0x00080002 })
    (List.range 16).map (scratchAt t) = [4, 4, 4, 3, 4, 4, 4, 4, 4, 4, 4, 4, 5, 4, 4, 4] ∧
    [12, 13, 14, 15, 48, 49, 50, 51].map (gridAt t) = [3, 3, 4, 0, 2, 3, 3, 3] := by decide +kernel

/-- Vector G8: caves, columns (0,0), (2,0), (0,2). -/
theorem test_generate_caves :
    let t := got (exec .generate { ready Params.reference 2 [] with heightBase := 4, caveCfg := 0x00008011 })
    [0, 1, 2, 3, 8, 9, 10, 11, 32, 33, 34, 35].map (gridAt t) = [1, 1, 1, 4, 3, 3, 1, 4, 3, 3, 3, 4] := by decide +kernel

/-- Vector M5 (b): index wrap-around and ambient occlusion. -/
theorem test_mesh_wrap :
    let t := got (exec .mesh (ready Params.reference 1 (airBut 8 [(1, 2), (2, 2)])))
    readReg t .faceCount = 7 ∧ readReg t .status = 0x00000006 ∧
    (List.range 7).map (fbAt t) = [0x040041, 0x04D519, 0x050461, 0x040002, 0x048552, 0x050122, 0x05512A] := by
  decide +kernel

/-- Vector M8: the mask bit tested is that of the side that points back. -/
theorem test_mesh_mask_bit :
    let t := got (exec .mesh (ready sixTypes 2 (airBut 64 [(21, 2), (22, 5), (20, 5)])))
    readReg t .faceCount = 15 ∧
    (List.range 15).map (fbAt t) =
      [0x0500014, 0x0520054, 0x05600D4, 0x0580114, 0x05A0154, 0x0200015, 0x0220055, 0x0240095, 0x0280115, 0x02A0155,
       0x0500016, 0x0520056, 0x0540096, 0x0580116, 0x05A0156] := by decide +kernel

/-! ## The kernel, the record, the addressing, the script -/

/-- Vector G1. -/
theorem test_perm :
    [0, 1, 2, 3, 8, 127, 128, 255].map perm = [165, 189, 245, 13, 225, 169, 161, 173] := by decide

/-- Vector G2. -/
theorem test_seedByte :
    seedByte 0x12345678 = 0x08 ∧ seedByte 0xFFFFFFFF = 0x00 ∧ seedByte 0x01000000 = 0x01 ∧
    seedByte 0xDEADBEEF = 0x22 := by decide

/-- Vector G3. -/
theorem test_hash :
    hash2 8 0 0 = 147 ∧ hash2 8 1 0 = 118 ∧ hash2 8 0 1 = 171 ∧ hash2 8 (-1) 0 = 240 ∧ hash2 8 256 0 = 147 ∧
    hash3 0 0 0 0 = 254 := by decide

/-- Vector G4, the rows (2,3), (-1,0), (-3,2). -/
theorem test_heightNoise :
    heightNoise 8 2 2 3 = 150 ∧ heightNoise 8 2 (-1) 0 = 170 ∧ heightNoise 8 2 (-3) 2 = 134 := by decide +kernel

/-- Vectors E5 and E8, and `Unpack` of vector M4's record. -/
theorem test_record :
    pack 9 ⟨300, 3, 1, 2, 3, 0, 0x1B⟩ = 0x1B3972C ∧ pack 15 ⟨32767, 5, 3, 3, 3, 3, 0xFF⟩ = 0x3FFFEFFFF ∧
    unpack 6 0x24A495 = ⟨21, 2, 2, 0, 1, 1, 0x12⟩ := by decide

/-- Vectors E5 and E8: the container bytes. -/
theorem test_record_bytes :
    recordBytes 3 0x1B3972C = [0x2C, 0x97, 0xB3, 0x01] ∧
    recordBytes 5 0x3FFFEFFFF = [0xFF, 0xFF, 0xFE, 0xFF, 0x03, 0x00, 0x00, 0x00] := by decide

/-- Vectors A7, A8, A11 (also the witness of the flatten statement: coordinates in range). -/
theorem test_flatten :
    flatten3d 1 2 3 4 = 54 ∧ unflatten3d 376 8 = (7, 0, 5) ∧ flatten3d 1 2 3 32 = 3106 ∧ flatten2d 1 3 32 = 97 := by
  decide

/-- R78, R79: text to transactions. -/
theorem test_script :
    ((scriptOfText "config 4   ; D\n  setnoise 2, 8\nwr CX, -1\nwrc 1, 1, 1, STONE\nfillg 0, 1, 0x3\n\nrd STATUS").bind
      (expandScript 0)) =
    some [.writeReg 0x00 0x21, .writeReg 0x20 0x00080002, .writeReg 0x10 0xFFFFFFFF, .writeGrid 21 2, .writeGrid 0 3,
      .writeGrid 1 3, .readReg 0x04] ∧
    (scriptOfText "config 3").bind (expandScript 0) = none ∧ scriptOfText "jump 4" = none := by decide +kernel

/-! ## Witnesses: the hypotheses of each obligation can be met -/

theorem test_witness_IllegalWords :
    ([0x00, 0x05, 0x0F, 0x12, 0x13, 0x74, 0x81, 0x80000001] : List Word).map (fun w => (decode w).isOk)
      = List.replicate 8 false ∧
    ([0x00, 0x05, 0x0F, 0x12, 0x13, 0x74, 0x81, 0x80000001] : List Word).map
      (fun w => readReg (got (step (asked State.reset [.txn (.writeReg 0x00 w)]))) .status)
      = List.replicate 8 0x00000019 ∧ State.reset.fault = false := by decide

theorem test_witness_AStepRunsTheDecodedCommand :
    let s := asked State.reset [.txn (.writeReg 0x00 0x03), .reset]
    s.pending = .txn (.writeReg 0x00 0x03) :: [.reset] ∧ decode 0x03 = .ok .generate := by decide

theorem test_witness_Halted :
    halted.fault = true ∧ halted.err = 4 ∧
    got (step (asked halted [.txn (.writeReg 0x00 0x02)])) = halted ∧
    (∀ x ∈ ([.writeReg 0x10 7, .readReg 0x04, .writeGrid 0 2, .readOcc 2] : List Transaction),
      (∀ w, x ≠ .writeReg 0x00 w) ∧
      (nextState (step { asked halted [.txn x] with fault := false, err := 0 })).isSome = true) := by
  refine ⟨by decide, by decide, by decide, ?_⟩
  intro x hx
  simp only [List.mem_cons, List.not_mem_nil, or_false] at hx
  rcases hx with rfl | rfl | rfl | rfl <;> exact ⟨by simp, by decide⟩

/-- Each operand register, all ones written: the bits of R11 to R13. -/
theorem test_witness_OperandRegisters :
    ∀ row ∈ ([(0x10, 0xFFFFFFFF), (0x14, 0xFFFFFFFF), (0x18, 0xFFFFFFFF), (0x1C, 0xFFFFFFFF), (0x20, 0xFFFF0007),
        (0x24, 0xFFFFFFFF), (0x28, 0x0000FF71)] : List (Nat × Word)),
      let s := asked State.reset [.txn (.writeReg row.1 0xFFFFFFFF), .txn (.readReg row.1)]
      (got (step (got (step s)))).reply = some (.reg row.2) := by decide

theorem test_witness_ReadOnlyRegisters :
    (∀ off ∈ ([0x04, 0x08, 0x0C] : List Nat),
      got (step (asked State.reset [.txn (.writeReg off 0xFFFFFFFF)])) = State.reset) ∧
    (got (step (asked State.reset [.txn (.readReg 0x00)]))).reply = some (.reg 0) ∧
    refuses (step (asked State.reset [.txn (.readReg 0x02)])) = true := by decide

/-- The invariant's own witness: reset, with a command to come (also for `EveryStepKeepsTheInvariant`). -/
theorem test_witness_Inv : (State.reset.withFetchWord 32 0x11).Inv where
  params_wf := by decide
  grid_wf := by decide
  scratch_wf := by decide
  fb_wf := by decide
  dsel_le := by decide
  configured_iff := by decide
  scratch_fits := by decide
  table := by decide
  fault_iff := by decide
  err_le := by decide
  noise_bits := by decide
  cave_bits := by decide
  results := by decide
  tags := by decide

theorem test_witness_InvStep : (nextState (step (State.reset.withFetchWord 32 0x11))).isSome = true := by decide

/-- `DIM` at the two ends of `DSEL` and while none is held (vectors K1, K5, K9). -/
theorem test_witness_Dim :
    readReg (ready Params.reference 1 []) .dim = 0x16030201 ∧ readReg (ready Params.reference 5 []) .dim = 0x220F2005 ∧
    readReg State.reset .dim = 0 := by decide

/-- The highest element of each space. -/
theorem test_witness_MemoryTransactions :
    (gridAt (got (step (asked State.reset [.txn (.writeGrid 32767 4)]))) 32767 = 4) ∧
    ∀ x ∈ ([.readGrid 32767, .readOcc 4, .readFb 196607] : List Transaction),
      (nextState (step (asked State.reset [.txn x]))).isSome = true := by decide

theorem test_witness_ReadsAreIdempotent :
    ∀ x ∈ ([.readReg 0x04, .readGrid 0, .readOcc 0, .readFb 0] : List Transaction),
      (nextState (step (asked State.reset [.txn x, .txn x]))).isSome = true := by decide

theorem test_witness_RepeatingAWrite :
    ∀ x ∈ ([.writeReg 0x20 0xFFFFFFFF, .writeReg 0x04 1, .writeGrid 5 2] : List Transaction),
      (nextState (step (asked State.reset [.txn x, .txn x]))).isSome = true := by decide

/-- A legal word that faults and an illegal one (vectors F1, F6). -/
theorem test_witness_OnlyACommandWriteRaisesAFault :
    State.reset.fault = false ∧
    (got (step (asked State.reset [.txn (.writeReg 0x00 0x04)]))).err = 2 ∧
    (got (step (asked State.reset [.txn (.writeReg 0x00 0x05)]))).err = 1 := by decide

/-- One step beyond each range, and at its end. -/
theorem test_witness_OutsideTheMap :
    (∀ x ∈ ([.writeReg 0x2C 0, .readReg 0x2C, .writeGrid 32768 0, .readGrid 32768, .readOcc 5, .readFb 196608]
        : List Transaction), refuses (step (asked State.reset [.txn x])) = true) ∧
    (∀ x ∈ ([.writeReg 0x28 0, .readReg 0x28, .writeGrid 32767 0] : List Transaction),
      (nextState (step (asked State.reset [.txn x]))).isSome = true) := by decide

theorem test_witness_Idle : State.reset.pending = [] := by decide

theorem test_witness_AGridRead :
    let xs : List Transaction := [.writeReg 0x00 0x21, .writeGrid 8 1, .readGrid 7]
    (∀ x ∈ xs, x.wellFormed State.reset.params = true ∧ (∀ u, x ≠ .writeGrid 7 u) ∧
      (∀ w, x = .writeReg 0x00 w → decode w ≠ .ok .generate)) := by
  intro xs x hx
  simp only [xs, List.mem_cons, List.not_mem_nil, or_false] at hx
  rcases hx with rfl | rfl | rfl
  · refine ⟨by decide, by simp, fun w hw => ?_⟩
    injection hw with _ hw
    rw [← hw]
    decide
  · exact ⟨by decide, by simp, by simp⟩
  · exact ⟨by decide, by simp, by simp⟩

/-- Vector K9 after a reset out of the halt. -/
theorem test_witness_Reset :
    let t := got (step (asked halted [.reset, .reset]))
    readReg t .status = 0x00000008 ∧ t.occ = List.replicate 5 0 ∧ t.pending = [.reset] := by decide

/-- A step that raises a flag, and a frozen one; neither state's next event is a reset. -/
theorem test_witness_ControlFlags :
    (got (step (State.reset.withFetchWord 32 0x11))).configured = true ∧
    (nextState (step (halted.withFetchWord 32 0x02))).isSome = true := by decide

/-- The two ways `OCC` changes. -/
theorem test_witness_TableChanges :
    (got (step (State.reset.withFetchWord 32 0x02))).occ ≠ State.reset.occ ∧
    (got (step (asked halted [.reset]))).occ ≠ halted.occ := by decide

theorem test_witness_Instances :
    let sys : System := ⟨[State.reset.withFetchWord 32 0x11, State.reset.withFetchWord 32 0x02]⟩
    sys.wellFormed = true ∧ ∃ a b, sys.stepAt ⟨0, by decide⟩ = .next a ∧ sys.stepAt ⟨1, by decide⟩ = .next b :=
  ⟨by decide, _, _, rfl, rfl⟩

/-- Every command's faults but `ERR_ALLOC` (vectors F1 to F5, F10, F12). -/
theorem test_witness_Faults :
    (got (exec (.config 0) State.reset)).err = 2 ∧ (got (exec .generate State.reset)).err = 2 ∧
    (got (exec .mesh State.reset)).err = 2 ∧
    (got (exec .mesh { ready Params.reference 1 [] with tblBuilt := false })).err = 4 ∧
    (got (exec .mesh (ready Params.reference 1 (airBut 8 [(3, 9)])))).err = 6 := by decide +kernel

/-- The operands at the ends of each clause, and both sides of the scratch limit (vectors F14, F15). -/
theorem test_witness_Config :
    State.reset.fault = false ∧
    (∀ d ∈ ([1, 5] : List (BitVec 3)), (got (exec (.config d) State.reset)).dsel = d) ∧
    (∀ d ∈ ([0, 6, 7] : List (BitVec 3)), (got (exec (.config d) State.reset)).err = 2) ∧
    (got (exec (.config 4) (State.powerOn smallScratch 0 []))).configured = true ∧
    (2 ^ (5 : BitVec 3).toNat) ^ 2 > smallScratch.scratchDepth := by decide

theorem test_witness_BuildTable :
    State.reset.fault = false ∧ State.reset.params.wellFormed = true ∧ State.reset.tblBuilt = false ∧
    (ready Params.reference 1 []).tblBuilt = true := by decide

/-- The frame's commands answer a next state, with and without a fault. -/
theorem test_witness_Frame :
    (nextState (exec (.config 1) State.reset)).isSome = true ∧
    (nextState (exec .buildTable (ready Params.reference 1 []))).isSome = true := by decide

/-- For `GENERATE`'s statements: running and configured, `D = 2`; `State.reset` is the state without a dimension. -/
theorem test_witness_Generate :
    let s := ready Params.reference 1 []
    s.fault = false ∧ s.configured = true ∧ 2 = 2 ^ s.dsel.toNat ∧ (nextState (exec .generate s)).isSome = true ∧
    State.reset.configured = false := by
  decide +kernel

/-- The depths 0, 1, 2, 4, 5 are met: the column of vector G6, `D = 8`, and a carved cell (vector G8). -/
theorem test_witness_Depths :
    [5, 4, 3, 1, 0, 6].map (fun y => cellType { State.reset with heightBase := 6 } 0 (BitVec.ofNat 32 y) 0 6)
      = [4, 3, 3, 2, 2, 0] ∧
    cellType { State.reset with caveCfg := 0x00008011 } 0 0 0 4 = 1 := by decide

/-- Two chunks that contain the same world cell: chunk 0 wraps round to itself after `2^32 / 2` chunks. -/
theorem test_witness_Continuity :
    worldCoord 0x00000000 2 1 = worldCoord 0x80000000 2 1 ∧ worldCoord 0 2 0 = worldCoord 0 2 0 := by decide

/-- For the lattice split and the height noise: the largest shift, at a lattice point and just before the next. -/
theorem test_witness_Noise : (7 : Nat) ≤ 7 ∧ fraction 0xFFFFFF80 7 = 0 ∧ asr 0xFFFFFF80 7 = -1 ∧ fraction 0xFFFFFFFF 7 = 127 := by
  decide

/-- For the block write: a memory in canonical form. -/
theorem test_witness_BlockWrite : (Memory.mk 0 [(1, 7), (4, 9)] : Memory Byte).wf := by decide

/-- For `MESH`'s statements: a well-formed chunk with a solid cell, running, configured and built (vector M9, `D = 2`). -/
theorem test_witness_Mesh :
    let s := ready Params.reference 1 (airBut 8 [(7, 3)])
    let t := got (exec .mesh s)
    s.fault = false ∧ s.configured = true ∧ s.tblBuilt = true ∧ s.dsel.toNat ≤ 5 ∧
    (∀ i, i < 2 ^ 3 → (gridAt s i).toNat < s.params.nTypes) ∧ t.fault = false ∧ 2 < t.faceCount.toNat ∧
    (List.range 3).map (fbAt t) = [0x06400F, 0x06C01F, 0x07402F] := by decide +kernel

/-- Each clause of the faults of `MESH`, `NTYPES = 256` included. -/
theorem test_witness_MeshFaults :
    State.reset.configured = false ∧ halted.configured = true ∧
    ({ ready Params.reference 1 [] with tblBuilt := false }).tblBuilt = false ∧
    Params.reference.nTypes ≤ (gridAt (ready Params.reference 1 (airBut 8 [(3, 5)])) 3).toNat ∧
    ({ Params.reference with nTypes := 256, occInit := [0, 0] ++ List.replicate 254 1
                             materials := List.replicate 1536 0 }).wellFormed = true := by decide +kernel

/-- An air chunk and a solid one (vectors M6, M7): successful, with the all-true mask on every solid type. -/
theorem test_witness_AirAndSolid :
    let s := ready Params.reference 1 [0, 1, 0, 1, 1, 0, 0, 1]
    let u := ready Params.reference 1 (List.replicate 8 2)
    (got (exec .mesh s)).fault = false ∧ (got (exec .mesh u)).fault = false ∧ occAt u 2 = 0x3F ∧
    (got (exec .mesh s)).isEmpty = true ∧ (got (exec .mesh u)).isEmpty = false := by decide +kernel

/-- Two states that differ in what `MESH` does not read, both meshed. -/
theorem test_witness_MeshDepends :
    let s := ready Params.reference 1 (airBut 8 [(7, 3)])
    let u := { s with cx := 5, seed := 1, faceCount := 9, grid := ⟨0, numberFrom 0 (airBut 9 [(7, 3), (8, 200)])⟩ }
    s.occ = u.occ ∧ (∀ i, i < 8 → gridAt s i = gridAt u i) ∧ (got (exec .mesh s)).fault = false ∧
    (got (exec .mesh u)).fault = false := by decide +kernel

/-- The neighbours of cell 1 of `D = 2` (vector M5). -/
theorem test_witness_Neighbours :
    let s := ready Params.reference 1 []
    2 = 2 ^ s.dsel.toNat ∧ flatten3d 0 1 0 2 = 1 ∧
    Dir.all.map (neighbour s 1) = [5, -3, 2, 0, 3, -1] := by decide

/-- Corner 1 of the `TOP` face of cell 21, `D = 4` (vector M4). -/
theorem test_witness_Corners : cornerCells (ready Params.reference 2 []) 21 .top 1 = (26, 6, 10) := by decide

/-- For the face buffer as bytes: both containers, and vector E7's record. -/
theorem test_witness_Serialise :
    (5 : BitVec 3).toNat ≤ 5 ∧ containerW 5 = 64 ∧ containerW 4 = 32 ∧
    (faceBufferBytes { ready Params.reference 5 [] with faceCount := 1, fb := ⟨0, [(0, 0x06748B039)]⟩ })
      = [0x39, 0xB0, 0x48, 0x67, 0x00, 0x00, 0x00, 0x00] := by decide

theorem test_witness_UnpackInvertsPack : Face.legal 3 ⟨7, 5, 3, 3, 3, 3, 0xFF⟩ ∧ pack 3 ⟨7, 5, 3, 3, 3, 3, 0xFF⟩ = 0x3FFFEF := by
  decide

theorem test_witness_ScriptConfig : 1 ≤ (5 : BitVec 3).toNat ∧ (5 : BitVec 3).toNat ≤ 5 ∧ 32 = 2 ^ (5 : BitVec 3).toNat := by
  decide

/-- Each of the eleven offsets is answered, on a halted instance too (vectors F3, K2: `STATUS`, `DIM`). -/
theorem test_witness_RegisterReads :
    (∀ off ∈ ([0x00, 0x04, 0x08, 0x0C, 0x10, 0x14, 0x18, 0x1C, 0x20, 0x24, 0x28] : List Nat),
      (nextState (step (asked State.reset [.txn (.readReg off)]))).isSome = true) ∧
    (got (step (asked halted [.txn (.readReg 0x08)]))).reply = some (.reg 0x19060402) := by decide

/-- Two different seeds with one seed byte, 0x08 (vector G2 and its bytes in another order). -/
theorem test_witness_SeedByte : seedByte 0x12345678 = seedByte 0x78563412 ∧ seedByte 0x12345678 = 0x08 := by decide

/-- The last cell of a cube below 0, at the largest shift (R123). -/
theorem test_witness_CaveCube :
    (7 : Nat) ≤ 7 ∧ 127 < 2 ^ 7 ∧ (0xFFFFFFFF : Word).toInt = (-1) * 2 ^ 7 + ((127 : Nat) : Int) := by decide

/-- Vector G4, row (-1,0): `ix = -1`, `fx = 3`, `iz = 0`, `fz = 0`. -/
theorem test_witness_Blend :
    (2 : Nat) ≤ 7 ∧ 4 = 2 ^ 2 ∧ (0xFFFFFFFF : Word).toInt = (-1) * ((4 : Nat) : Int) + ((3 : Nat) : Int) ∧
    (0 : Word).toInt = 0 * ((4 : Nat) : Int) + ((0 : Nat) : Int) := by decide

end Sys2Proof.Tests
end

/-! # The invariant of Safety.lean: it holds at reset, and every event keeps it -/

namespace Sys2Proof.Machine

/-! ## Reset -/

/-- The values of 10_state.md R32 meet the invariant, whatever the family and the events to come. -/
theorem State.Inv.powerOn {p : Params} (hp : p.wellFormed = true) (tag : Nat) (events : List HostEvent) :
    (State.powerOn p tag events).Inv where
  params_wf := hp
  grid_wf := ⟨Memory.wf_unspecified tag, Memory.within_unspecified tag _⟩
  scratch_wf := ⟨Memory.wf_unspecified tag, Memory.within_unspecified tag _⟩
  fb_wf := ⟨Memory.wf_unspecified tag, Memory.within_unspecified tag _⟩
  dsel_le := Nat.zero_le 5
  configured_iff := by simp [State.powerOn]
  scratch_fits := by simp [State.powerOn]
  table := rfl
  fault_iff := by simp [State.powerOn]
  err_le := Nat.zero_le 6
  noise_bits := BitVec.zero_and
  cave_bits := BitVec.zero_and
  results _ := by simp [State.powerOn]
  tags := ⟨Nat.lt_succ_self tag, Nat.lt_succ_self tag, Nat.lt_succ_self tag⟩

/-- Settles O19: `State.Inv.powerOn`, of which `State.reset` is the case of the reference parameters. -/
theorem theInvariantHoldsAtReset : Obligations.TheInvariantHoldsAtReset :=
  ⟨fun _ tag events hp => .powerOn hp tag events, .powerOn (by decide) 0 []⟩

namespace State.Inv

variable {s : State}

theorem resetEvent (h : s.Inv) : (resetEvent s).Inv := .powerOn h.params_wf s.nextFree s.pending

/-! ## The model's own fields -/

theorem consume (h : s.Inv) (rest : List HostEvent) : (s.consume rest).Inv := { h with }

theorem setReply (h : s.Inv) (r : Reply) : (s.setReply r).Inv := { h with }

/-! ## Host writes -/

/-- A register write stores only the bits that exist (10_state.md R12, R13). -/
theorem writeReg (h : s.Inv) (v : Word) (r : Reg) : (writeReg s v r).Inv := by
  cases r with
  | noiseCfg => exact { h with noise_bits := by simp [Machine.writeReg, BitVec.and_assoc] }
  | caveCfg => exact { h with cave_bits := by simp [Machine.writeReg, BitVec.and_assoc] }
  | cmd | status | dim | faceCount => exact h
  | cx | cy | cz | seed | heightBase => exact { h with }

theorem setGridCell (h : s.Inv) {i : Nat} (hi : i < Config.gridDepth) (v : Byte) : (s.setGridCell i v).Inv :=
  { h with grid_wf := ⟨Memory.wf_write h.grid_wf.1 i v, Memory.within_write h.grid_wf.2 hi v⟩ }

/-! ## Faults -/

/-- `ERR` is 0 while `FAULT = 0` (10_state.md R16). -/
theorem err_eq_zero (h : s.Inv) (hf : s.fault = false) : s.err = 0 := by
  by_contra he
  simp [h.fault_iff.2 he] at hf

/-- A fault that keeps the results (60_exceptions.md R183). -/
theorem setFault (h : s.Inv) (hf : s.fault = false) (c : ErrCode) : (s.setFault c).Inv :=
  { h with
    fault_iff := iff_of_true rfl c.code_range.1
    err_le := c.code_range.2
    results := fun _ => h.results (by rw [h.err_eq_zero hf]; decide) }

/-- `ERR_BAD_TYPE`, which loses the results (60_exceptions.md R185). -/
theorem loseResults_setFault (h : s.Inv) : (s.loseResults.setFault .badType).Inv :=
  { h with
    fb_wf := ⟨Memory.wf_unspecified s.nextFree, Memory.within_unspecified s.nextFree _⟩
    fault_iff := by simp [ErrCode.code]
    err_le := by simp [ErrCode.code]
    results := fun hne => absurd rfl hne
    tags := ⟨Nat.lt_succ_of_lt h.tags.1, Nat.lt_succ_of_lt h.tags.2.1, Nat.lt_succ_self _⟩ }

/-! ## `CONFIG` and `BUILD_TABLE` -/

theorem setConfigured (h : s.Inv) {d : BitVec 3} (h1 : 1 ≤ d.toNat) (h5 : d.toNat ≤ 5)
    (hfit : dimOf d * dimOf d ≤ s.params.scratchDepth) : (s.setConfigured d).Inv :=
  { h with
    dsel_le := h5
    configured_iff := iff_of_true rfl (by rintro rfl; exact absurd h1 (by decide))
    scratch_fits := fun _ => hfit
    results := fun _ => by simp }

theorem setTable (h : s.Inv) : (s.setTable (occInitTable s.params)).Inv := { h with table := rfl }

/-! ## `GENERATE` -/

/-- `D²` heights fit `SCRATCH` once the dimension is configured (40_config_and_table.md R91), and `D³` cells fit `GRID`. -/
theorem generated (h : s.Inv) (hc : s.configured = true) : (generated s).Inv :=
  { h with
    scratch_wf := ⟨Memory.wf_writeBlock h.scratch_wf.1 _,
      Memory.within_writeBlock h.scratch_wf.2 (by simpa using h.scratch_fits hc)⟩
    grid_wf := ⟨Memory.wf_writeBlock h.grid_wf.1 _,
      Memory.within_writeBlock h.grid_wf.2
        (by simpa [Config.gridDepth] using cellCount_le (s := s.setScratchBlock _) h.dsel_le)⟩ }

end State.Inv

/-! ## `MESH` -/

/-- A record of legal fields is below `2^RECW` (30_encoding.md R72, R77). -/
theorem pack_lt {p : Nat} {f : Face} (h : f.legal p) : pack p f < 2 ^ (p + 19) := by
  obtain ⟨hpos, hdir, h0, h1, h2, h3, hmat⟩ := h
  simp only [pack, pow_add]
  generalize 2 ^ p = q at *
  have hd : f.faceDir * q ≤ 5 * q := Nat.mul_le_mul_right q hdir
  have ha0 : f.ao0 * (q * 2 ^ 3) ≤ 3 * (q * 2 ^ 3) := Nat.mul_le_mul_right _ h0
  have ha1 : f.ao1 * (q * 2 ^ 5) ≤ 3 * (q * 2 ^ 5) := Nat.mul_le_mul_right _ h1
  have ha2 : f.ao2 * (q * 2 ^ 7) ≤ 3 * (q * 2 ^ 7) := Nat.mul_le_mul_right _ h2
  have ha3 : f.ao3 * (q * 2 ^ 9) ≤ 3 * (q * 2 ^ 9) := Nat.mul_le_mul_right _ h3
  have hm : f.materialId * (q * 2 ^ 11) ≤ 255 * (q * 2 ^ 11) := Nat.mul_le_mul_right _ hmat
  omega

/-- The cells of a chunk are numbered in `POSW` bits (00_scope.md R4). -/
theorem cellCount_eq_two_pow_posW (s : State) : s.cellCount = 2 ^ posW s.dsel := by
  simp [State.cellCount, State.dim, dimOf, posW, ← pow_mul, mul_comm]

theorem faceOf_legal {s : State} {i : Nat} (hi : i < s.cellCount) (d : Dir) : (faceOf s i d).legal (posW s.dsel) :=
  ⟨by rwa [← cellCount_eq_two_pow_posW], dir_code_le d, aoLevel_le s i d 0, aoLevel_le s i d 1, aoLevel_le s i d 2,
    aoLevel_le s i d 3, Nat.le_of_lt_succ (materialOf s.params (gridAt s i) d).isLt⟩

/-- The record of a cell of the chunk is within the record width (42_mesher.md R160). -/
theorem recordOf_lt {s : State} {i : Nat} (hi : i < s.cellCount) (d : Dir) :
    (recordOf s i d).toNat < 2 ^ recW s.dsel := by
  rw [recordOf, BitVec.toNat_ofNat]
  exact (Nat.mod_le _ _).trans_lt (pack_lt (faceOf_legal hi d))

/-- Every record below the count of a successful scan is within the record width. -/
theorem fbAt_meshed_lt {s : State} {k : Nat} (hk : k < (visibleFaces s).length) :
    (fbAt (meshed s) k).toNat < 2 ^ recW s.dsel := by
  rw [fbAt_meshed, dif_pos hk]
  exact recordOf_lt ((mem_visibleFaces s _ _).1 (List.getElem_mem hk)).1 _

/-- The records of a successful scan fit `FB` (10_state.md R24) and are those the results clause asks for. -/
theorem State.Inv.meshed {s : State} (h : s.Inv) : (meshed s).Inv :=
  have hcount := meshed_faceCount h.dsel_le
  have hfaces := visibleFaces_length_le s
  have hcells := cellCount_le h.dsel_le
  { h with
    fb_wf := ⟨Memory.wf_writeBlock h.fb_wf.1 _,
      Memory.within_writeBlock h.fb_wf.2 (by simp only [meshRecords_length, Config.fbDepth]; omega)⟩
    results := fun _ =>
      ⟨hcount ▸ hfaces,
       fun he => BitVec.eq_of_toNat_eq (by rw [hcount, visibleFaces_of_meshEmpty he]; rfl),
       fun _ hk => fbAt_meshed_lt (hcount ▸ hk)⟩ }

/-! ## Every command and every event -/

theorem State.Inv.exec {s t : State} (h : s.Inv) (i : Instr) (he : exec i s = .next t) : t.Inv := by
  cases i with
  | config d =>
    obtain ⟨-, rfl⟩ | ⟨hf, -, rfl⟩ | ⟨hf, -, -, -, rfl⟩ | ⟨-, h1, h5, hfit, rfl⟩ := execConfig_cases he
    · exact h
    · exact h.setFault hf _
    · exact h.setFault hf _
    · exact h.setConfigured h1 h5 hfit
  | buildTable =>
    obtain ⟨-, rfl⟩ | ⟨hf, -, rfl⟩ | ⟨-, -, rfl⟩ := execBuildTable_cases he
    · exact h
    · exact h.setFault hf _
    · exact h.setTable
  | generate =>
    obtain ⟨-, rfl⟩ | ⟨hf, -, rfl⟩ | ⟨-, hc, rfl⟩ := execGenerate_cases he
    · exact h
    · exact h.setFault hf _
    · exact h.generated hc
  | mesh =>
    obtain ⟨-, rfl⟩ | ⟨hf, -, rfl⟩ | ⟨hf, -, -, rfl⟩ | ⟨-, -, -, -, rfl⟩ | ⟨-, -, -, -, rfl⟩ := execMesh_cases he
    · exact h
    · exact h.setFault hf _
    · exact h.setFault hf _
    · exact h.loseResults_setFault
    · exact h.meshed

theorem State.Inv.issue {s t : State} (h : s.Inv) {w : Word} (hi : issue w s = .next t) : t.Inv := by
  obtain ⟨i, -, he⟩ | ⟨-, -, ⟨-, rfl⟩ | ⟨hf, rfl⟩⟩ := issue_cases hi
  · exact h.exec i he
  · exact h
  · exact h.setFault hf _

theorem State.Inv.transact {s t : State} (h : s.Inv) {x : Transaction} (hx : transact x s = .next t) : t.Inv := by
  obtain ⟨w, -, hw⟩ | ⟨-, v, r, -, -, -, rfl⟩ | ⟨i, v, -, hi, rfl⟩ | ⟨r, rfl⟩ := transact_cases hx
  · exact h.issue hw
  · exact h.writeReg v r
  · exact h.setGridCell hi v
  · exact h.setReply r

/-- Settles O20: a step idles, resets or performs a transaction, and each of these keeps the invariant. -/
theorem everyStepKeepsTheInvariant : Obligations.EveryStepKeepsTheInvariant := by
  intro s t h hstep
  obtain ⟨-, rfl⟩ | ⟨rest, -, rfl⟩ | ⟨x, rest, -, hx⟩ := step_cases hstep
  · exact h
  · exact (h.consume rest).resetEvent
  · exact (h.consume rest).transact hx

end Sys2Proof.Machine

/-! # `SCRATCH` is hidden (10_state.md R23, 41_generator.md R115)

`State.withScratch` replaces the scratch memory alone, and `AgreeButScratch` relates the outcomes of two states that
differ in it alone: each operation of the machine, run on both, gives outcomes so related. -/

namespace Sys2Proof.Machine

/-- `s` with another scratch memory. -/
def State.withScratch (s : State) (m : Memory Word) : State := { s with scratch := m }

/-- Two outcomes that agree on everything but the scratch memory of the next state. -/
def AgreeButScratch : Outcome → Outcome → Prop
  | .next t, .next t' => t' = { t with scratch := t'.scratch }
  | .refused r, .refused r' => r = r'
  | _, _ => False

namespace AgreeButScratch

theorem next (t : State) (m : Memory Word) : AgreeButScratch (.next t) (.next (t.withScratch m)) := rfl

theorem refused (r : Refusal) : AgreeButScratch (.refused r) (.refused r) := rfl

/-- A test that does not look at the scratch memory takes the same branch in both states. -/
theorem ite {c : Prop} [Decidable c] {a a' b b' : Outcome} (ha : AgreeButScratch a a') (hb : AgreeButScratch b b') :
    AgreeButScratch (if c then a else b) (if c then a' else b') := by
  split
  · exact ha
  · exact hb

variable (s : State) (m : Memory Word)

/-! ## The halt and the fault -/

theorem raiseFault (c : ErrCode) : AgreeButScratch (raiseFault c s) (raiseFault c (s.withScratch m)) :=
  next (s.setFault c) m

theorem whileRunning {body : State → Outcome} (h : AgreeButScratch (body s) (body (s.withScratch m))) :
    AgreeButScratch (whileRunning s body) (whileRunning (s.withScratch m) body) :=
  ite (next s m) h

end AgreeButScratch

/-! ## `GENERATE`: pass 2 reads only what pass 1 wrote -/

/-- The column of a cell of the chunk is one of the `D²` columns. -/
theorem flatten2d_unflatten3d_lt {i d : Nat} (hi : i < d ^ 3) :
    flatten2d (unflatten3d i d).1 (unflatten3d i d).2.2 d < d * d := by
  have hd : 0 < d := Nat.pos_of_ne_zero (by rintro rfl; simp at hi)
  have hx : i % d ^ 2 / d < d := Nat.div_lt_of_lt_mul (by rw [← sq]; exact Nat.mod_lt _ (by positivity))
  have hz : i / d ^ 2 < d := Nat.div_lt_of_lt_mul (by rwa [← pow_succ])
  simp only [flatten2d, unflatten3d]
  nlinarith

/-- After pass 1 the column heights do not depend on what `SCRATCH` held. -/
theorem scratchAt_setScratchBlock_withScratch (s : State) (m : Memory Word) {hs : List Word} {c : Nat}
    (hc : c < hs.length) :
    scratchAt ((s.withScratch m).setScratchBlock hs) c = scratchAt (s.setScratchBlock hs) c := by
  rw [scratchAt_setScratchBlock, scratchAt_setScratchBlock, dif_pos hc, dif_pos hc]

theorem cellAt_setScratchBlock_withScratch (s : State) (m : Memory Word) {hs : List Word} {i d : Nat}
    (hl : hs.length = d * d) (hi : i < d ^ 3) :
    cellAt ((s.withScratch m).setScratchBlock hs) d i = cellAt (s.setScratchBlock hs) d i := by
  have hread := scratchAt_setScratchBlock_withScratch s m (hl ▸ flatten2d_unflatten3d_lt hi)
  simp only [cellAt, hread]
  rfl

/-- The old contents of `SCRATCH` reach nothing but the new contents of `SCRATCH`. -/
theorem generated_withScratch (s : State) (m : Memory Word) :
    generated (s.withScratch m) = (generated s).withScratch (m.writeBlock (columnHeights s s.dim)) := by
  have hcells : (List.range s.cellCount).map
        (cellAt ((s.withScratch m).setScratchBlock (columnHeights s s.dim)) s.dim) =
      (List.range s.cellCount).map (cellAt (s.setScratchBlock (columnHeights s s.dim)) s.dim) :=
    List.map_congr_left fun i hi =>
      cellAt_setScratchBlock_withScratch s m (columnHeights_length s s.dim) (List.mem_range.1 hi)
  exact congrArg (((s.withScratch m).setScratchBlock (columnHeights s s.dim)).setGridBlock ·) hcells

/-! ## Every command and every event -/

namespace AgreeButScratch

variable (s : State) (m : Memory Word)

theorem exec (i : Instr) : AgreeButScratch (exec i s) (exec i (s.withScratch m)) := by
  cases i with
  | config d =>
    simp only [Machine.exec, execConfig]
    refine whileRunning s m ?_
    exact ite (raiseFault s m .badDim) (ite (raiseFault s m .alloc) (next (s.setConfigured d) m))
  | buildTable =>
    simp only [Machine.exec, execBuildTable]
    refine whileRunning s m ?_
    exact ite (raiseFault s m .tableRebuilt) (next (s.setTable (occInitTable s.params)) m)
  | generate =>
    simp only [Machine.exec, execGenerate]
    refine whileRunning s m ?_
    rw [generated_withScratch]
    exact ite (raiseFault s m .badDim) (next (generated s) _)
  | mesh =>
    simp only [Machine.exec, execMesh]
    refine whileRunning s m ?_
    exact ite (raiseFault s m .badDim) (ite (raiseFault s m .tableUnbuilt)
      (ite (raiseFault s.loseResults m .badType) (next (meshed s) m)))

theorem issue (w : Word) : AgreeButScratch (issue w s) (issue w (s.withScratch m)) := by
  simp only [Machine.issue]
  cases decode w with
  | ok i => exact exec s m i
  | error _ => exact whileRunning s m (raiseFault s m .badCmd)

theorem hostWrite (r : Reg) (v : Word) : AgreeButScratch (hostWrite r v s) (hostWrite r v (s.withScratch m)) := by
  cases r with
  | cmd => exact issue s m v
  | _ => exact next _ m

theorem transact (x : Transaction) : AgreeButScratch (transact x s) (transact x (s.withScratch m)) := by
  cases x with
  | writeReg off v =>
    simp only [Machine.transact]
    cases regOfOffset off with
    | none => exact refused _
    | some r => exact hostWrite s m r v
  | readReg off =>
    simp only [Machine.transact]
    cases regOfOffset off with
    | none => exact refused _
    | some r => exact next (s.setReply (.reg (readReg s r))) m
  | writeGrid i t => exact ite (next (s.setGridCell i t) m) (refused _)
  | readGrid i => exact ite (next (s.setReply (.grid (gridAt s i))) m) (refused _)
  | readOcc t => exact ite (next (s.setReply (.occ (occAt s t))) m) (refused _)
  | readFb k => exact ite (next (s.setReply (.fb (fbAt s k))) m) (refused _)

theorem perform (e : HostEvent) : AgreeButScratch (perform e s) (perform e (s.withScratch m)) := by
  cases e with
  | txn x => exact transact s m x
  | reset => exact next (resetEvent s) (resetEvent s).scratch

theorem step : AgreeButScratch (step s) (step (s.withScratch m)) := by
  cases hp : s.pending with
  | nil =>
    rw [step_idle hp, step_idle (s := s.withScratch m) hp]
    exact next s m
  | cons e rest =>
    rw [step_cons hp, step_cons (s := s.withScratch m) hp]
    exact perform (s.consume rest) m e

end AgreeButScratch

/-- Settles O23: the two steps agree but for `SCRATCH`, since every operation does (`AgreeButScratch.step`). -/
theorem scratchContentsAreNeverObserved : Obligations.ScratchContentsAreNeverObserved :=
  AgreeButScratch.step

end Sys2Proof.Machine

/-! # The opcode map read both ways (30_encoding.md R61) -/

namespace Sys2Proof

theorem decode_encode (i : Instr) : decode (encode i) = .ok i := by
  cases i with
  | config d => revert d; decide
  | buildTable | generate | mesh => decide

/-- A command without an operand is read only from a word whose bits 6:4 are 0. -/
theorem withoutOperand_eq_ok {w : Word} {i j : Instr} (h : withoutOperand w i = .ok j) : dselField w = 0 ∧ j = i := by
  unfold withoutOperand at h
  split at h
  · injection h with h
    exact ⟨‹_›, h.symm⟩
  · cases h

/-- A word that decodes to a command has nothing in bits 31:7, and its opcode is the command's. -/
theorem fields_of_decode {w : Word} {i : Instr} (h : decode w = .ok i) :
    zeroField w = 0 ∧
    ((opcodeField w = 1 ∧ i = .config (dselField w)) ∨ (opcodeField w = 2 ∧ dselField w = 0 ∧ i = .buildTable) ∨
      (opcodeField w = 3 ∧ dselField w = 0 ∧ i = .generate) ∨ (opcodeField w = 4 ∧ dselField w = 0 ∧ i = .mesh)) := by
  unfold decode at h
  split at h
  · cases h
  · refine ⟨not_not.1 ‹_›, ?_⟩
    split at h
    · injection h with h
      exact .inl ⟨‹_›, h.symm⟩
    · split at h
      · exact .inr (.inl ⟨‹_›, withoutOperand_eq_ok h⟩)
      · split at h
        · exact .inr (.inr (.inl ⟨‹_›, withoutOperand_eq_ok h⟩))
        · split at h
          · exact .inr (.inr (.inr ⟨‹_›, withoutOperand_eq_ok h⟩))
          · cases h

/-- A word is its three fields (30_encoding.md R60). -/
theorem toNat_eq_fields (w : Word) :
    w.toNat = (zeroField w).toNat * 128 + (dselField w).toNat * 16 + (opcodeField w).toNat := by
  rw [zeroField_toNat, dselField_toNat, opcodeField_toNat]
  omega

/-- No word but its encoding decodes to a command. -/
theorem eq_encode_of_decode {w : Word} {i : Instr} (h : decode w = .ok i) : w = encode i := by
  have hw := toNat_eq_fields w
  obtain ⟨hz, ⟨ho, rfl⟩ | ⟨ho, hd, rfl⟩ | ⟨ho, hd, rfl⟩ | ⟨ho, hd, rfl⟩⟩ := fields_of_decode h
  · apply BitVec.eq_of_toNat_eq
    have := (dselField w).isLt
    rw [hw, hz, ho]
    simp [encode]
    omega
  all_goals
    apply BitVec.eq_of_toNat_eq
    rw [hw, hz, ho, hd]
    rfl

end Sys2Proof

/-! # The host port: what one event from the host does (20_memory.md R41, R42) -/

namespace Sys2Proof.Machine

/-- The register map holds each register at its own offset alone. -/
theorem eq_offsetOf_of_regOfOffset {off : Nat} {r : Reg} (h : regOfOffset off = some r) : off = offsetOf r := by
  unfold regOfOffset at h
  split at h <;> cases h <;> rfl

/-- Every offset of the register map is a multiple of 4 (20_memory.md R41). -/
theorem regOfOffset_unaligned {off : Nat} (h : off % 4 ≠ 0) : regOfOffset off = none := by
  cases hr : regOfOffset off with
  | none => rfl
  | some r =>
    have haligned : offsetOf r % 4 = 0 := by cases r <;> rfl
    exact absurd (eq_offsetOf_of_regOfOffset hr ▸ haligned) h

section

variable {s : State} {rest : List HostEvent}

theorem step_reset (h : s.pending = .reset :: rest) : step s = .next (resetEvent (s.consume rest)) := step_cons h

theorem step_command {w : Word} {i : Instr} (h : s.pending = .txn (.writeReg 0x00 w) :: rest) (hd : decode w = .ok i) :
    step s = exec i (s.consume rest) := by
  rw [step_cons h]
  simp only [perform, transact, regOfOffset, hostWrite, issue, hd]

theorem step_writeReg {r : Reg} {v : Word} (hr : r ≠ .cmd) (h : s.pending = .txn (.writeReg (offsetOf r) v) :: rest) :
    step s = .next (writeReg (s.consume rest) v r) := by
  rw [step_cons h]
  simp only [perform, transact, regOfOffset_offsetOf]
  cases r with
  | cmd => exact absurd rfl hr
  | _ => rfl

theorem step_readReg {r : Reg} (h : s.pending = .txn (.readReg (offsetOf r)) :: rest) :
    step s = .next ((s.consume rest).setReply (.reg (readReg (s.consume rest) r))) := by
  rw [step_cons h]
  simp only [perform, transact, regOfOffset_offsetOf]

theorem step_unaligned {off : Nat} {v : Word} (hoff : off % 4 ≠ 0)
    (h : s.pending = .txn (.writeReg off v) :: rest ∨ s.pending = .txn (.readReg off) :: rest) :
    step s = .refused .outsideMap := by
  obtain h | h := h <;> rw [step_cons h] <;> simp only [perform, transact, regOfOffset_unaligned hoff]

end

/-- Settles O5: `step_command`, and for `withFetchWord` that decoding inverts encoding. -/
theorem aStepRunsTheDecodedCommand : Obligations.AStepRunsTheDecodedCommand := by
  refine ⟨fun s w rest i h hd => step_command h hd, fun s i => ?_⟩
  have hw : BitVec.ofNat 32 ((encode i).toNat % 2 ^ 32) = encode i := by
    rw [Nat.mod_eq_of_lt (encode i).isLt, BitVec.ofNat_toNat, BitVec.setWidth_eq]
  have hp : (s.withFetchWord 32 (encode i).toNat).pending = .txn (.writeReg 0x00 (encode i)) :: s.pending := by
    simp only [State.withFetchWord, hw]
  exact step_command hp (decode_encode i)

/-- Settles O17: the reset values are those of `State.powerOn`. -/
theorem resetGivesTheResetValues : Obligations.ResetGivesTheResetValues := by
  intro s rest h
  refine ⟨_, step_reset h, ?_⟩
  simp [resetEvent, State.powerOn, occAt, readReg, statusWord, dimWord]

/-! ## The operand registers (10_state.md R11 to R13) -/

/-- What the rows of R11 to R13 mean: the offset of the register, and the bits that a write leaves readable. -/
theorem readReg_writeReg_of_mem {off : Nat} {r : Reg} {m : Word} (h : (off, r, m) ∈ ([(0x10, .cx, 0xFFFFFFFF),
      (0x14, .cy, 0xFFFFFFFF), (0x18, .cz, 0xFFFFFFFF), (0x1C, .seed, 0xFFFFFFFF), (0x20, .noiseCfg, 0xFFFF0007),
      (0x24, .heightBase, 0xFFFFFFFF), (0x28, .caveCfg, 0x0000FF71)] : List (Nat × Reg × Word))) :
    off = offsetOf r ∧ r ≠ .cmd ∧ ∀ (s : State) (v : Word), readReg (writeReg s v r) r = v &&& m := by
  have hall (v : Word) : v = v &&& 0xFFFFFFFF := BitVec.and_allOnes.symm
  simp only [List.mem_cons, Prod.mk.injEq, List.not_mem_nil, or_false] at h
  obtain ⟨rfl, rfl, rfl⟩ | ⟨rfl, rfl, rfl⟩ | ⟨rfl, rfl, rfl⟩ | ⟨rfl, rfl, rfl⟩ | ⟨rfl, rfl, rfl⟩ | ⟨rfl, rfl, rfl⟩ |
    ⟨rfl, rfl, rfl⟩ := h
  · exact ⟨rfl, by decide, fun _ v => hall v⟩
  · exact ⟨rfl, by decide, fun _ v => hall v⟩
  · exact ⟨rfl, by decide, fun _ v => hall v⟩
  · exact ⟨rfl, by decide, fun _ v => hall v⟩
  · exact ⟨rfl, by decide, fun _ _ => rfl⟩
  · exact ⟨rfl, by decide, fun _ v => hall v⟩
  · exact ⟨rfl, by decide, fun _ _ => rfl⟩

@[simp] theorem readReg_consume (s : State) (rest : List HostEvent) (r : Reg) :
    readReg (s.consume rest) r = readReg s r := rfl

@[simp] theorem readReg_setReply (s : State) (x : Reply) (r : Reg) : readReg (s.setReply x) r = readReg s r := rfl

theorem readReg_writeReg_of_ne (s : State) (v : Word) {r r' : Reg} (h : r' ≠ r) :
    readReg (writeReg s v r) r' = readReg s r' := by
  cases r' with
  | cmd => rfl
  | status => simp [readReg, statusWord]
  | dim => simp [readReg, dimWord]
  | faceCount => simp [readReg, faceCountWord]
  | cx | cy | cz | seed | noiseCfg | heightBase | caveCfg => cases r <;> simp_all [readReg, writeReg]

/-- Settles O7: a register write reaches its register alone, and the read after it changes only the returned value. -/
theorem operandRegistersReadBackWhatWasWritten : Obligations.OperandRegistersReadBackWhatWasWritten := by
  intro s v rest off r m hrow hp
  obtain ⟨rfl, hr, hread⟩ := readReg_writeReg_of_mem hrow
  refine ⟨_, _, step_writeReg hr hp, step_readReg (r := r) (rest := rest) (by simp), ?_, rfl, ?_, ?_, ?_⟩
  · simp [hread]
  · simp [hread]
  · intro r' hne
    simp [readReg_writeReg_of_ne _ v hne]
  · simp

/-! ## The words of the read-only registers (10_state.md R16 to R18) -/

theorem toNat_append_eq_add {m n : Nat} (x : BitVec m) (y : BitVec n) : (x ++ y).toNat = x.toNat * 2 ^ n + y.toNat := by
  rw [BitVec.toNat_append, ← Nat.shiftLeft_add_eq_or_of_lt y.isLt, Nat.shiftLeft_eq]

theorem statusWord_toNat (s : State) :
    (statusWord s).toNat = s.err.toNat * 16 + s.isEmpty.toNat * 8 + s.tblBuilt.toNat * 4 + s.configured.toNat * 2
      + s.fault.toNat := by
  simp only [statusWord, toNat_append_eq_add, BitVec.toNat_ofBool, BitVec.toNat_zero]
  omega

theorem faceCountWord_toNat (s : State) : (faceCountWord s).toNat = s.faceCount.toNat := by
  simp only [faceCountWord, toNat_append_eq_add, BitVec.toNat_zero, Nat.zero_mul, Nat.zero_add]

/-- `DIM` for a held `DSEL`: no field loses a bit. -/
theorem dimWord_toNat {s : State} (h1 : 1 ≤ s.dsel.toNat) (h5 : s.dsel.toNat ≤ 5) :
    (dimWord s).toNat = s.dsel.toNat + 2 ^ s.dsel.toNat * 2 ^ 8 + 3 * s.dsel.toNat * 2 ^ 16
      + (3 * s.dsel.toNat + 19) * 2 ^ 24 := by
  have hne : s.dsel ≠ 0 := by intro h; simp [h] at h1
  have hD : 2 ^ s.dsel.toNat ≤ 2 ^ 5 := Nat.pow_le_pow_right (by decide) h5
  simp only [dimWord, if_neg hne, toNat_append_eq_add, BitVec.toNat_ofNat, recW, posW, dimOf]
  rw [Nat.mod_eq_of_lt (a := 3 * s.dsel.toNat + 19) (by omega), Nat.mod_eq_of_lt (a := 3 * s.dsel.toNat) (by omega),
    Nat.mod_eq_of_lt (a := 2 ^ s.dsel.toNat) (by omega)]
  omega

theorem statusWord_getLsbD (s : State) :
    (statusWord s).getLsbD 0 = s.fault ∧ (statusWord s).getLsbD 1 = s.configured ∧
    (statusWord s).getLsbD 2 = s.tblBuilt ∧ (statusWord s).getLsbD 3 = s.isEmpty := by
  simp only [statusWord, BitVec.getLsbD_append]
  simp

theorem statusWord_err (s : State) : (statusWord s).toNat / 16 = s.err.toNat := by
  have hempty := s.isEmpty.toNat_lt
  have hbuilt := s.tblBuilt.toNat_lt
  have hconf := s.configured.toNat_lt
  have hfault := s.fault.toNat_lt
  rw [statusWord_toNat]
  omega

/-- Settles O9: the bits of `STATUS` as they are appended, and the three words as numbers. -/
theorem statusDimAndFaceCountHoldTheirFields : Obligations.StatusDimAndFaceCountHoldTheirFields := by
  intro s
  obtain ⟨hfault, hconf, hbuilt, hempty⟩ := statusWord_getLsbD s
  exact ⟨⟨hfault, hconf, hbuilt, hempty, statusWord_err s⟩, fun h => if_pos h, dimWord_toNat, faceCountWord_toNat s⟩

/-! ## Reserved bits (10_state.md R12, R13, R16 to R18) -/

/-- A word and a mask without a common bit, field by field. -/
theorem append_and_append_eq_zero {m n : Nat} {x x' : BitVec m} {y y' : BitVec n} (hx : x &&& x' = 0)
    (hy : y &&& y' = 0) : (x ++ y) &&& (x' ++ y') = 0 := by
  rw [BitVec.and_append, hx, hy]
  exact BitVec.zero_append_zero

theorem statusWord_reserved (s : State) : statusWord s &&& 0xFFFFFF00 = 0 := by
  have hmask : (0xFFFFFF00 : Word) = BitVec.allOnes 24 ++ 0#4 ++ 0#1 ++ 0#1 ++ 0#1 ++ 0#1 := by decide
  rw [hmask]
  iterate 5 refine append_and_append_eq_zero ?_ BitVec.and_zero
  exact BitVec.zero_and

theorem dimWord_reserved (s : State) : dimWord s &&& 0xC0F0C0F8 = 0 := by
  have hmask : (0xC0F0C0F8 : Word) = 3#2 ++ 0#6 ++ 15#4 ++ 0#4 ++ 3#2 ++ 0#6 ++ 31#5 ++ 0#3 := by decide
  rw [hmask, dimWord]
  split
  · exact BitVec.zero_and
  · iterate 3 refine append_and_append_eq_zero (append_and_append_eq_zero ?_ BitVec.zero_and) BitVec.and_zero
    exact append_and_append_eq_zero BitVec.zero_and BitVec.and_zero

theorem faceCountWord_reserved (s : State) : faceCountWord s &&& 0xFFFC0000 = 0 := by
  have hmask : (0xFFFC0000 : Word) = BitVec.allOnes 14 ++ 0#18 := by decide
  rw [hmask]
  exact append_and_append_eq_zero BitVec.zero_and BitVec.and_zero

/-- A word that holds bits of a mask alone has no bit outside the mask. -/
theorem and_eq_zero_of_and_eq_self {w bits other : Word} (h : w &&& bits = w) (hd : bits &&& other = 0) :
    w &&& other = 0 := by
  rw [← h, BitVec.and_assoc, hd]
  exact BitVec.and_zero

/-- A write to a read-only register is ignored. -/
theorem step_writeReadOnly {s : State} {off : Nat} {v : Word} {rest : List HostEvent}
    (hoff : off = 0x04 ∨ off = 0x08 ∨ off = 0x0C) (h : s.pending = .txn (.writeReg off v) :: rest) :
    step s = .next (s.consume rest) := by
  obtain rfl | rfl | rfl := hoff
  · exact step_writeReg (r := .status) (by decide) h
  · exact step_writeReg (r := .dim) (by decide) h
  · exact step_writeReg (r := .faceCount) (by decide) h

/-- Settles O8: the reserved bits of the stored registers are 0 by the invariant, those of the others by their layout. -/
theorem readOnlyAndWriteOnlyRegistersHaveNoEffect : Obligations.ReadOnlyAndWriteOnlyRegistersHaveNoEffect := by
  refine ⟨fun s off v rest => step_writeReadOnly, fun s rest => step_readReg (r := .cmd), fun s h => ?_,
    fun s off v rest => step_unaligned⟩
  exact ⟨statusWord_reserved s, dimWord_reserved s, faceCountWord_reserved s,
    and_eq_zero_of_and_eq_self h.noise_bits (by decide), and_eq_zero_of_and_eq_self h.cave_bits (by decide)⟩

/-! # What a step can do to the parameters and to the table -/

/-- No command writes the parameters, and none but a first `BUILD_TABLE` writes the table. -/
theorem exec_params_occ {s t : State} {i : Instr} (h : exec i s = .next t) :
    t.params = s.params ∧ (t.occ = s.occ ∨ (i = .buildTable ∧ s.fault = false ∧ s.tblBuilt = false ∧
      t = s.setTable (occInitTable s.params))) := by
  cases i with
  | config d =>
    obtain ⟨-, rfl⟩ | ⟨-, -, rfl⟩ | ⟨-, -, -, -, rfl⟩ | ⟨-, -, -, -, rfl⟩ := execConfig_cases h <;>
      exact ⟨rfl, .inl rfl⟩
  | buildTable =>
    obtain ⟨-, rfl⟩ | ⟨-, -, rfl⟩ | ⟨hf, hb, rfl⟩ := execBuildTable_cases h
    · exact ⟨rfl, .inl rfl⟩
    · exact ⟨rfl, .inl rfl⟩
    · exact ⟨rfl, .inr ⟨rfl, hf, hb, rfl⟩⟩
  | generate =>
    obtain ⟨-, rfl⟩ | ⟨-, -, rfl⟩ | ⟨-, -, rfl⟩ := execGenerate_cases h <;> exact ⟨rfl, .inl rfl⟩
  | mesh =>
    obtain ⟨-, rfl⟩ | ⟨-, -, rfl⟩ | ⟨-, -, -, rfl⟩ | ⟨-, -, -, -, rfl⟩ | ⟨-, -, -, -, rfl⟩ := execMesh_cases h <;>
      exact ⟨rfl, .inl rfl⟩

/-- No transaction writes the parameters, and none but the write of a first `BUILD_TABLE` writes the table. -/
theorem transact_params_occ {s t : State} {x : Transaction} (h : transact x s = .next t) :
    t.params = s.params ∧ (t.occ = s.occ ∨ (x = .writeReg 0x00 (encode .buildTable) ∧ s.fault = false ∧
      s.tblBuilt = false ∧ t = s.setTable (occInitTable s.params))) := by
  obtain ⟨w, rfl, hw⟩ | ⟨off, v, r, -, -, -, rfl⟩ | ⟨i, v, -, -, rfl⟩ | ⟨r, rfl⟩ := transact_cases h
  · obtain ⟨i, hd, he⟩ | ⟨-, -, ⟨-, rfl⟩ | ⟨-, rfl⟩⟩ := issue_cases hw
    · obtain ⟨hp, ho | ⟨rfl, hf, hb, ht⟩⟩ := exec_params_occ he
      · exact ⟨hp, .inl ho⟩
      · exact ⟨hp, .inr ⟨by rw [eq_encode_of_decode hd], hf, hb, ht⟩⟩
    · exact ⟨rfl, .inl rfl⟩
    · exact ⟨rfl, .inl rfl⟩
  · exact ⟨writeReg_params s v r, .inl (writeReg_occ s v r)⟩
  · exact ⟨rfl, .inl rfl⟩
  · exact ⟨rfl, .inl rfl⟩

/-- Settles O21: idling, reset and every transaction keep `params`. -/
theorem noStepWritesTheParameters : Obligations.NoStepWritesTheParameters := by
  intro s t h
  obtain ⟨-, rfl⟩ | ⟨rest, -, rfl⟩ | ⟨x, rest, -, hx⟩ := step_cases h
  · rfl
  · rfl
  · exact (transact_params_occ hx).1

/-- Settles O22: the one transaction that writes `OCC` is the write of a first `BUILD_TABLE`. -/
theorem theTableChangesOnlyInBuildTableOrReset : Obligations.TheTableChangesOnlyInBuildTableOrReset := by
  intro s t h hne
  obtain ⟨-, rfl⟩ | ⟨rest, hp, -⟩ | ⟨x, rest, hp, hx⟩ := step_cases h
  · exact absurd rfl hne
  · exact .inl ⟨rest, hp⟩
  · obtain ⟨-, ho | ⟨rfl, hf, hb, rfl⟩⟩ := transact_params_occ hx
    · exact absurd ho hne
    · exact .inr ⟨rest, hp, hf, hb, rfl, hf⟩

end Sys2Proof.Machine

/-! # The host's transactions (20_memory.md R42, R43, R50, R54) -/

namespace Sys2Proof.Machine

/-! ## The memories, one element at a time (R42, rows 3 to 6) -/

@[simp] theorem gridAt_consume (s : State) (rest : List HostEvent) (i : Nat) : gridAt (s.consume rest) i = gridAt s i :=
  rfl

section

variable {s : State} {rest : List HostEvent}

theorem step_writeGrid {i : Nat} {v : Byte} (hi : i < Config.gridDepth) (h : s.pending = .txn (.writeGrid i v) :: rest) :
    step s = .next ((s.consume rest).setGridCell i v) :=
  (step_cons h).trans (if_pos hi)

theorem step_readGrid {i : Nat} (hi : i < Config.gridDepth) (h : s.pending = .txn (.readGrid i) :: rest) :
    step s = .next ((s.consume rest).setReply (.grid (gridAt s i))) :=
  (step_cons h).trans (if_pos hi)

theorem step_readOcc {k : Nat} (hk : k < s.params.nTypes) (h : s.pending = .txn (.readOcc k) :: rest) :
    step s = .next ((s.consume rest).setReply (.occ (occAt s k))) :=
  (step_cons h).trans (if_pos hk)

theorem step_readFb {k : Nat} (hk : k < Config.fbDepth) (h : s.pending = .txn (.readFb k) :: rest) :
    step s = .next ((s.consume rest).setReply (.fb (fbAt s k))) :=
  (step_cons h).trans (if_pos hk)

end

/-- Settles O10: `gridAt_setGridCell` for the write, and the step of each read. -/
theorem memoryTransactionsReachExactlyTheirElement : Obligations.MemoryTransactionsReachExactlyTheirElement := by
  intro s rest
  refine ⟨fun i v hi h => ⟨_, step_writeGrid hi h, fun j => ?_, rfl⟩, fun i => step_readGrid, fun k => step_readOcc,
    fun k => step_readFb⟩
  rw [gridAt_setGridCell, gridAt_consume]
  exact if_congr eq_comm rfl rfl

/-- Settles O54: the rows of the map are the eleven registers, each at its offset. -/
theorem aRegisterReadAnswersItsRegister : Obligations.ARegisterReadAnswersItsRegister := by
  intro s rest off v hrow hp
  have hmap : (off, v) ∈ ([.cmd, .status, .dim, .faceCount, .cx, .cy, .cz, .seed, .noiseCfg, .heightBase, .caveCfg]
      : List Reg).map fun r => (offsetOf r, readReg s r) := hrow
  obtain ⟨r, -, hr⟩ := List.mem_map.1 hmap
  obtain ⟨rfl, rfl⟩ := Prod.mk.inj hr
  exact step_readReg hp

/-! ## The map (R41 to R43): which requests are answered -/

/-- The offsets of R42, the multiples of 4 up to 0x28, are those of the registers. -/
theorem offset_inMap_iff {off : Nat} : (off % 4 == 0 && decide (off ≤ 0x28)) = true ↔ ∃ r, off = offsetOf r := by
  constructor
  · have hmap : ∀ off < 0x29, off % 4 = 0 → (regOfOffset off).isSome = true := by decide
    intro h
    simp only [Bool.and_eq_true, beq_iff_eq, decide_eq_true_eq] at h
    obtain ⟨r, hr⟩ := Option.isSome_iff_exists.1 (hmap off (Nat.lt_succ_of_le h.2) h.1)
    exact ⟨r, eq_offsetOf_of_regOfOffset hr⟩
  · rintro ⟨r, rfl⟩
    cases r <;> rfl

theorem regOfOffset_of_not_inMap {off : Nat} (h : (off % 4 == 0 && decide (off ≤ 0x28)) = false) :
    regOfOffset off = none := by
  cases hr : regOfOffset off with
  | none => rfl
  | some r => exact absurd (offset_inMap_iff.2 ⟨r, eq_offsetOf_of_regOfOffset hr⟩) (by simp [h])

/-- A write to `CMD` always answers a next state, whatever the word. -/
theorem issue_total (w : Word) (s : State) : ∃ t, issue w s = .next t := by
  unfold issue whileRunning raiseFault
  split
  · exact exec_total _ s
  · split_ifs <;> exact ⟨_, rfl⟩

theorem transact_of_wellFormed {x : Transaction} {s : State} (h : x.wellFormed s.params = true) :
    ∃ t, transact x s = .next t := by
  cases x with
  | writeReg off v =>
    obtain ⟨r, rfl⟩ := offset_inMap_iff.1 h
    simp only [transact, regOfOffset_offsetOf]
    cases r with
    | cmd => exact issue_total v s
    | _ => exact ⟨_, rfl⟩
  | readReg off =>
    obtain ⟨r, rfl⟩ := offset_inMap_iff.1 h
    simp only [transact, regOfOffset_offsetOf]
    exact ⟨_, rfl⟩
  | writeGrid | readGrid | readOcc | readFb => exact ⟨_, if_pos (of_decide_eq_true h)⟩

theorem transact_of_not_wellFormed {x : Transaction} {s : State} (h : x.wellFormed s.params = false) :
    transact x s = .refused .outsideMap := by
  cases x with
  | writeReg | readReg => simp only [transact, regOfOffset_of_not_inMap h]
  | writeGrid | readGrid | readOcc | readFb => exact if_neg (of_decide_eq_false h)

theorem perform_of_wellFormed {e : HostEvent} {s : State} (h : e.wellFormed s.params = true) :
    ∃ t, perform e s = .next t := by
  cases e with
  | txn x => exact transact_of_wellFormed h
  | reset => exact ⟨_, rfl⟩

theorem perform_of_not_wellFormed {e : HostEvent} {s : State} (h : e.wellFormed s.params = false) :
    perform e s = .refused .outsideMap := by
  cases e with
  | txn x => exact transact_of_not_wellFormed h
  | reset => cases h

/-- A step is refused under the one name, and for an event outside the map. -/
theorem step_refused_cases {s : State} {r : Refusal} (h : step s = .refused r) :
    r = .outsideMap ∧ ∃ e rest, s.pending = e :: rest ∧ e.wellFormed s.params = false := by
  cases hp : s.pending with
  | nil =>
    rw [step_idle hp] at h
    cases h
  | cons e rest =>
    rw [step_cons hp] at h
    cases he : e.wellFormed s.params with
    | true =>
      obtain ⟨t, ht⟩ := perform_of_wellFormed (s := s.consume rest) he
      rw [ht] at h
      cases h
    | false =>
      rw [perform_of_not_wellFormed (s := s.consume rest) he] at h
      cases h
      exact ⟨rfl, e, rest, rfl, he⟩

/-- An event that a step answers lies in the map. -/
theorem wellFormed_of_step {s t : State} {e : HostEvent} {rest : List HostEvent} (hp : s.pending = e :: rest)
    (h : step s = .next t) : e.wellFormed s.params = true := by
  refine Bool.of_not_eq_false fun he => ?_
  rw [step_cons hp, perform_of_not_wellFormed (s := s.consume rest) he] at h
  cases h

/-- Settles O14: an event in the map is answered, one outside it is refused. -/
theorem exactlyTheRequestsOutsideTheMapAreRefused : Obligations.ExactlyTheRequestsOutsideTheMapAreRefused := by
  intro s
  refine ⟨⟨fun ⟨r, hr⟩ => (step_refused_cases hr).2, fun ⟨e, rest, hp, he⟩ => ⟨.outsideMap, ?_⟩⟩,
    fun r hr => (step_refused_cases hr).1, fun h => ?_⟩
  · exact (step_cons hp).trans (perform_of_not_wellFormed he)
  · cases hp : s.pending with
    | nil => exact ⟨s, step_idle hp⟩
    | cons e rest =>
      rw [step_cons hp]
      exact perform_of_wellFormed (h e rest hp)

/-! ## Reads and writes repeated (R50) -/

/-- A read in the map has one answer, whatever the host asks after it and was answered before it, and writes nothing. -/
theorem step_read {s : State} {x : Transaction}
    (hx : ∃ k, x = .readReg k ∨ x = .readGrid k ∨ x = .readOcc k ∨ x = .readFb k) (hw : x.wellFormed s.params = true) :
    ∃ a, ∀ rest old, step { s with pending := .txn x :: rest, reply := old } =
      .next { s with pending := rest, reply := some a } := by
  obtain ⟨k, rfl | rfl | rfl | rfl⟩ := hx
  · obtain ⟨r, rfl⟩ := offset_inMap_iff.1 hw
    exact ⟨.reg (readReg s r), fun _ _ => step_readReg rfl⟩
  · exact ⟨.grid (gridAt s k), fun _ _ => step_readGrid (of_decide_eq_true hw) rfl⟩
  · exact ⟨.occ (occAt s k), fun _ _ => step_readOcc (of_decide_eq_true hw) rfl⟩
  · exact ⟨.fb (fbAt s k), fun _ _ => step_readFb (of_decide_eq_true hw) rfl⟩

/-- Settles O11: `step_read` for the first read and for the second. -/
theorem readsAreIdempotentAndChangeNoState : Obligations.ReadsAreIdempotentAndChangeNoState := by
  intro s t x rest hx hp h
  obtain ⟨a, ha⟩ := step_read hx (wellFormed_of_step hp h)
  have hfirst := ha (.txn x :: rest) s.reply
  rw [← hp, h] at hfirst
  injection hfirst with ht
  subst ht
  exact ⟨rfl, ha rest (some a)⟩

theorem insertCell_insertCell_self {α : Type} (i : Nat) (v : α) (cs : List (Nat × α)) :
    insertCell i v (insertCell i v cs) = insertCell i v cs := by
  induction cs with
  | nil => simp [insertCell]
  | cons c r ih =>
    obtain ⟨k, u⟩ := c
    by_cases h1 : i < k
    · simp [insertCell, h1]
    · by_cases h2 : i = k
      · simp [insertCell, h2]
      · simp [insertCell, h1, h2, ih]

theorem setGridCell_setGridCell_self (s : State) (i : Nat) (v : Byte) :
    (s.setGridCell i v).setGridCell i v = s.setGridCell i v := by
  simp only [State.setGridCell, Memory.write, insertCell_insertCell_self]

theorem writeReg_writeReg_self (s : State) (v : Word) (r : Reg) : writeReg (writeReg s v r) v r = writeReg s v r := by
  cases r <;> rfl

theorem writeReg_consume (s : State) (rest : List HostEvent) (v : Word) (r : Reg) :
    writeReg (s.consume rest) v r = (writeReg s v r).consume rest := by
  cases r <;> rfl

theorem setGridCell_consume (s : State) (rest : List HostEvent) (i : Nat) (v : Byte) :
    (s.consume rest).setGridCell i v = (s.setGridCell i v).consume rest := rfl

/-- Settles O12: the second of two equal writes finds the register or the element as it would leave it. -/
theorem repeatingAWriteChangesNothingMore : Obligations.RepeatingAWriteChangesNothingMore := by
  intro s t x rest hx hp h
  have hw := wellFormed_of_step hp h
  obtain ⟨off, v, hoff, rfl⟩ | ⟨i, v, rfl⟩ := hx
  · obtain ⟨r, rfl⟩ := offset_inMap_iff.1 hw
    have hr : r ≠ .cmd := by
      rintro rfl
      exact hoff rfl
    rw [step_writeReg hr hp, writeReg_consume] at h
    injection h with h
    subst h
    refine (step_writeReg hr rfl).trans (congrArg Host.Outcome.next ?_)
    rw [writeReg_consume, writeReg_consume, writeReg_writeReg_self]
    rfl
  · have hi : i < Config.gridDepth := of_decide_eq_true hw
    rw [step_writeGrid hi hp, setGridCell_consume] at h
    injection h with h
    subst h
    refine (step_writeGrid hi rfl).trans (congrArg Host.Outcome.next ?_)
    rw [setGridCell_consume, setGridCell_consume, setGridCell_setGridCell_self]
    rfl

/-! ## A grid read returns the latest write (R54) -/

/-- No command writes the host's input, and none but `GENERATE` writes `GRID`. -/
theorem exec_pending_grid {s t : State} {i : Instr} (h : exec i s = .next t) :
    t.pending = s.pending ∧ (i ≠ .generate → t.grid = s.grid) := by
  cases i with
  | config d =>
    obtain ⟨-, rfl⟩ | ⟨-, -, rfl⟩ | ⟨-, -, -, -, rfl⟩ | ⟨-, -, -, -, rfl⟩ := execConfig_cases h <;>
      exact ⟨rfl, fun _ => rfl⟩
  | buildTable =>
    obtain ⟨-, rfl⟩ | ⟨-, -, rfl⟩ | ⟨-, -, rfl⟩ := execBuildTable_cases h <;> exact ⟨rfl, fun _ => rfl⟩
  | generate =>
    obtain ⟨-, rfl⟩ | ⟨-, -, rfl⟩ | ⟨-, -, rfl⟩ := execGenerate_cases h <;> exact ⟨rfl, fun hi => absurd rfl hi⟩
  | mesh =>
    obtain ⟨-, rfl⟩ | ⟨-, -, rfl⟩ | ⟨-, -, -, rfl⟩ | ⟨-, -, -, -, rfl⟩ | ⟨-, -, -, -, rfl⟩ := execMesh_cases h <;>
      exact ⟨rfl, fun _ => rfl⟩

/-- The transactions that leave `GRID[i]` as it is: no write of it, no `GENERATE`. -/
def KeepsCell (i : Nat) (x : Transaction) : Prop :=
  (∀ u, x ≠ .writeGrid i u) ∧ ∀ w, x = .writeReg 0x00 w → decode w ≠ .ok .generate

/-- A transaction takes nothing more from the input, and one that neither writes `GRID[i]` nor generates keeps it. -/
theorem transact_pending_gridAt {s t : State} {x : Transaction} {i : Nat} (hx : KeepsCell i x)
    (h : transact x s = .next t) :
    t.pending = s.pending ∧ gridAt t i = gridAt s i := by
  obtain ⟨hwrite, hgen⟩ := hx
  obtain ⟨w, rfl, hw⟩ | ⟨off, v, r, -, -, -, rfl⟩ | ⟨k, v, rfl, -, rfl⟩ | ⟨r, rfl⟩ := transact_cases h
  · obtain ⟨c, hd, he⟩ | ⟨-, -, ⟨-, rfl⟩ | ⟨-, rfl⟩⟩ := issue_cases hw
    · obtain ⟨hp, hg⟩ := exec_pending_grid he
      have hc : c ≠ .generate := fun hc => hgen w rfl (hc ▸ hd)
      exact ⟨hp, gridAt_congr (hg hc) i⟩
    · exact ⟨rfl, rfl⟩
    · exact ⟨rfl, rfl⟩
  · exact ⟨writeReg_pending s v r, gridAt_congr (writeReg_grid s v r) i⟩
  · have hne : k ≠ i := fun hk => hwrite v (hk ▸ rfl)
    exact ⟨rfl, by rw [gridAt_setGridCell, if_neg hne]⟩
  · exact ⟨rfl, rfl⟩

/-- A run through transactions in the map that keep `GRID[i]` arrives behind them, with `GRID[i]` as it was. -/
theorem run_keeps_gridAt {i : Nat} {xs : List Transaction} {rest : List HostEvent} {s : State}
    (hxs : ∀ x ∈ xs, x.wellFormed s.params = true ∧ KeepsCell i x) (hp : s.pending = xs.map .txn ++ rest) :
    ∃ t, gridAt t i = gridAt s i ∧ t.pending = rest ∧
      ∀ k, Sys2Proof.core.run (xs.length + k) s = Sys2Proof.core.run k t := by
  induction xs generalizing s with
  | nil => exact ⟨s, rfl, hp, fun k => by rw [List.length_nil, Nat.zero_add]⟩
  | cons x xs ih =>
    obtain ⟨⟨hw, hx⟩, hxs⟩ := List.forall_mem_cons.1 hxs
    obtain ⟨t, ht⟩ := transact_of_wellFormed (s := s.consume (xs.map .txn ++ rest)) hw
    obtain ⟨hpend, hgrid⟩ := transact_pending_gridAt hx ht
    have hstep : step s = .next t := (step_cons hp).trans ht
    rw [← noStepWritesTheParameters s t hstep] at hxs
    obtain ⟨u, hu, hupend, hrun⟩ := ih hxs hpend
    refine ⟨u, hu.trans hgrid, hupend, fun k => ?_⟩
    rw [List.length_cons, Nat.add_right_comm, core_run_next hstep, hrun]

/-- Settles O16: the write sets `GRID[i]`, the run up to the read keeps it (`run_keeps_gridAt`), the read returns it. -/
theorem aGridReadReturnsTheLatestWrite : Obligations.AGridReadReturnsTheLatestWrite := by
  intro s i v xs rest hi hxs hp
  rw [List.cons_append] at hp
  obtain ⟨t, hgrid, hpend, hrun⟩ := run_keeps_gridAt (s := (s.consume _).setGridCell i v) hxs rfl
  have hread : gridAt t i = v := by rw [hgrid, gridAt_setGridCell, if_pos rfl]
  refine ⟨(t.consume rest).setReply (.grid (gridAt t i)), ?_, by rw [hread]; rfl, rfl⟩
  rw [core_run_next (step_writeGrid hi hp), hrun, core_run_next (step_readGrid hi hpend), core_run_zero]

/-! # Addressing the grid (20_memory.md R44 to R48) -/

theorem flatten2d_eq (x z d : Nat) : flatten2d x z d = x + d * z := by
  rw [flatten2d, Nat.mul_comm, Nat.add_comm]

/-- A cell index is its column's index and the place in the column, as digits in base `D` (R44, R47). -/
theorem flatten3d_eq (x y z d : Nat) : flatten3d x y z d = y + d * flatten2d x z d := by
  simp only [flatten3d, flatten2d]
  ring

/-- The three coordinates are the digits of the cell index in base `D`. -/
theorem unflatten3d_eq (i d : Nat) : unflatten3d i d = (i / d % d, i % d, i / d / d) := by
  rw [unflatten3d, sq, Nat.mod_mul_right_div_self, Nat.div_div_eq_div_mul]

theorem flatten2d_div_mod {d x : Nat} (hx : x < d) (z : Nat) :
    flatten2d x z d / d = z ∧ flatten2d x z d % d = x :=
  (Nat.div_mod_unique (Nat.zero_lt_of_lt hx)).2 ⟨(flatten2d_eq x z d).symm, hx⟩

theorem flatten3d_div_mod {d y : Nat} (hy : y < d) (x z : Nat) :
    flatten3d x y z d / d = flatten2d x z d ∧ flatten3d x y z d % d = y :=
  (Nat.div_mod_unique (Nat.zero_lt_of_lt hy)).2 ⟨(flatten3d_eq x y z d).symm, hy⟩

theorem flatten3d_lt {d x y z : Nat} (hx : x < d) (hy : y < d) (hz : z < d) : flatten3d x y z d < d ^ 3 :=
  calc flatten3d x y z d = y + d * (x + d * z) := by rw [flatten3d_eq, flatten2d_eq]
    _ < d * (d * d) := Nat.add_mul_lt_mul_of_lt_of_lt hy (Nat.add_mul_lt_mul_of_lt_of_lt hx hz)
    _ = d ^ 3 := by ring

theorem unflatten3d_flatten3d {d x y : Nat} (hx : x < d) (hy : y < d) (z : Nat) :
    unflatten3d (flatten3d x y z d) d = (x, y, z) := by
  obtain ⟨hcolumn, hplace⟩ := flatten3d_div_mod hy x z
  obtain ⟨hrow, hlast⟩ := flatten2d_div_mod hx z
  rw [unflatten3d_eq, hcolumn, hplace, hrow, hlast]

theorem flatten3d_unflatten3d (i d : Nat) :
    flatten3d (unflatten3d i d).1 (unflatten3d i d).2.1 (unflatten3d i d).2.2 d = i := by
  rw [unflatten3d_eq, flatten3d_eq, flatten2d_eq, Nat.mod_add_div, Nat.mod_add_div]

theorem unflatten3d_lt {i d : Nat} (hi : i < d ^ 3) :
    (unflatten3d i d).1 < d ∧ (unflatten3d i d).2.1 < d ∧ (unflatten3d i d).2.2 < d := by
  have hd : 0 < d := Nat.pos_of_ne_zero (by rintro rfl; simp at hi)
  rw [unflatten3d_eq]
  refine ⟨Nat.mod_lt _ hd, Nat.mod_lt _ hd, Nat.div_lt_of_lt_mul (Nat.div_lt_of_lt_mul ?_)⟩
  rwa [← sq, ← pow_succ']

/-- Settles O37: `z`, `x`, `y` are the digits of the cell index in base `D`. -/
theorem flattenAndUnflattenAreInverse : Obligations.FlattenAndUnflattenAreInverse := by
  refine ⟨fun D x y z hx hy hz => ?_, fun D i x y z hi h => ?_, fun dsel => ?_⟩
  · exact ⟨flatten3d_lt hx hy hz, unflatten3d_flatten3d hx hy z, (flatten3d_div_mod hy x z).1.symm⟩
  · obtain ⟨hx, hy, hz⟩ := unflatten3d_lt hi
    have hflatten := flatten3d_unflatten3d i D
    rw [h] at hx hy hz hflatten
    exact ⟨hx, hy, hz, hflatten⟩
  · rw [posW, dimOf, ← pow_mul, Nat.mul_comm]

end Sys2Proof.Machine

/-! # The command word: decoding is the inverse of encoding, and the illegal words (30_encoding.md R60 to R63) -/

namespace Sys2Proof

open Machine

/-! ## Words and bytes -/

theorem decode_eq_ok_iff {w : Word} {i : Instr} : decode w = .ok i ↔ w = encode i := by
  constructor
  · exact eq_encode_of_decode
  · rintro rfl
    exact decode_encode i

/-- The byte decoder reads the word that its first four bytes carry, and leaves the rest (20_memory.md R49). -/
theorem decodeBytes_wordBytes_append {w : Word} {i : Instr} (h : decode w = .ok i) (rest : List Byte) :
    decodeBytes (wordBytes w ++ rest) = .ok (i, rest) := by
  simp only [wordBytes, List.cons_append, List.nil_append, decodeBytes, wordOfBytes_bytes, h]

theorem decodeTableWord_encode (i : Instr) : decodeTableWord 32 (encode i).toNat = some i := by
  have hw : BitVec.ofNat 32 ((encode i).toNat % 2 ^ 32) = encode i := by
    rw [Nat.mod_eq_of_lt (encode i).isLt, BitVec.ofNat_toNat, BitVec.setWidth_eq]
  have hb := decodeBytes_wordBytes_append (decode_encode i) []
  rw [List.append_nil] at hb
  simp only [decodeTableWord, hw, hb]

/-- Settles O2: `decode_eq_ok_iff` on words; on bytes, the four bytes of a word carry the word. -/
theorem decodeInvertsEncodeBothWays : Obligations.DecodeInvertsEncodeBothWays :=
  ⟨fun _ _ => decode_eq_ok_iff, fun i => decodeBytes_wordBytes_append (decode_encode i), decodeTableWord_encode⟩

/-- Settles O1: each word is the encoding of its command; opcode 2 with a bit in 6:4 is none. -/
theorem writtenOutWordsDecode : Obligations.WrittenOutWordsDecode :=
  ⟨decode_encode (.config 1), decode_encode (.config 2), decode_encode (.config 3), decode_encode (.config 4),
    decode_encode (.config 5), decode_encode (.config 0), decode_encode (.config 6), decode_encode (.config 7),
    decode_encode .buildTable, decode_encode .generate, decode_encode .mesh, decodeTableWord_encode (.config 5),
    decodeTableWord_encode .mesh, by decide⟩

/-! ## The rows of the opcode map -/

/-- The row of `CONFIG` fixes bits 31:7 and 3:0 and leaves `dsel` open. -/
theorem and_configMask_eq_iff {w : Word} : w &&& 0xFFFFFF8F = 0x00000001 ↔ ∃ d, w = encode (.config d) := by
  constructor
  · intro h
    have hzero : zeroField w = 0 :=
      calc zeroField w = zeroField w &&& zeroField 0xFFFFFF8F := BitVec.and_allOnes.symm
        _ = zeroField (w &&& 0xFFFFFF8F) := BitVec.extractLsb'_and.symm
        _ = 0 := by rw [h]; rfl
    have hopcode : opcodeField w = 1 :=
      calc opcodeField w = opcodeField w &&& opcodeField 0xFFFFFF8F := BitVec.and_allOnes.symm
        _ = opcodeField (w &&& 0xFFFFFF8F) := BitVec.extractLsb'_and.symm
        _ = 1 := by rw [h]; rfl
    exact ⟨dselField w, eq_encode_of_decode (by simp [decode, hzero, hopcode])⟩
  · rintro ⟨d, rfl⟩
    revert d
    decide

theorem encode_config_dsel (d : BitVec 3) : d.toNat = (encode (.config d)).toNat / 16 % 8 := by
  revert d
  decide

theorem decode_eq_config_iff {w : Word} {d : BitVec 3} :
    decode w = .ok (.config d) ↔ w &&& 0xFFFFFF8F = 0x00000001 ∧ d.toNat = w.toNat / 16 % 8 := by
  constructor
  · intro h
    obtain rfl := eq_encode_of_decode h
    exact ⟨and_configMask_eq_iff.2 ⟨d, rfl⟩, encode_config_dsel d⟩
  · rintro ⟨hrow, hdsel⟩
    obtain ⟨e, rfl⟩ := and_configMask_eq_iff.1 hrow
    rw [← encode_config_dsel e] at hdsel
    rw [BitVec.eq_of_toNat_eq hdsel]
    exact decode_encode (.config e)

/-- A row that fixes all 32 bits holds one word, its command's. -/
theorem decode_eq_ok_iff_and_allOnes {w : Word} {i : Instr} : decode w = .ok i ↔ w &&& 0xFFFFFFFF = encode i := by
  have hall : w &&& 0xFFFFFFFF = w := BitVec.and_allOnes
  rw [decode_eq_ok_iff, hall]

theorem exists_decode_of_covers {w : Word} {r : OpcodeRow} (hr : r ∈ opcodeRows) (h : r.covers w = true) :
    ∃ i, decode w = .ok i := by
  have hw : w &&& r.mask = r.value := eq_of_beq h
  simp only [opcodeRows, List.mem_cons, List.not_mem_nil, or_false] at hr
  obtain rfl | rfl | rfl | rfl := hr
  · obtain ⟨d, rfl⟩ := and_configMask_eq_iff.1 hw
    exact ⟨.config d, decode_encode _⟩
  · exact ⟨.buildTable, decode_eq_ok_iff_and_allOnes.2 hw⟩
  · exact ⟨.generate, decode_eq_ok_iff_and_allOnes.2 hw⟩
  · exact ⟨.mesh, decode_eq_ok_iff_and_allOnes.2 hw⟩

theorem encode_tableRow (i : Instr) : Laws.TableRow.Statement i := by
  cases i with
  | config d => exact Laws.TableRow.config d
  | buildTable => exact Laws.TableRow.buildTable
  | generate => exact Laws.TableRow.generate
  | mesh => exact Laws.TableRow.mesh

theorem coveringRows_length_of_decode {w : Word} {i : Instr} (h : decode w = .ok i) :
    (opcodeRows.filter fun r => r.covers w).length = 1 := by
  obtain rfl := eq_encode_of_decode h
  simpa only [List.length_map, List.length_singleton] using congrArg List.length (encode_tableRow i)

theorem coveringRows_length_of_not_decode {w : Word} (h : ¬ ∃ i, decode w = .ok i) :
    (opcodeRows.filter fun r => r.covers w).length = 0 := by
  rw [List.length_eq_zero_iff, List.filter_eq_nil_iff]
  exact fun r hr hc => h (exists_decode_of_covers hr hc)

theorem coveringRows_length (w : Word) :
    ((∃ i, decode w = .ok i) ↔ (opcodeRows.filter fun r => r.covers w).length = 1) ∧
      (opcodeRows.filter fun r => r.covers w).length ≤ 1 := by
  by_cases h : ∃ i, decode w = .ok i
  · obtain ⟨i, hi⟩ := h
    have hone := coveringRows_length_of_decode hi
    exact ⟨iff_of_true ⟨i, hi⟩ hone, hone.le⟩
  · have hzero := coveringRows_length_of_not_decode h
    exact ⟨iff_of_false h (by omega), by omega⟩

/-- Settles O3: each row read as its command's encodings, and `coveringRows_length` for the count of rows. -/
theorem aWordDecodesByExactlyOneRow : Obligations.AWordDecodesByExactlyOneRow := fun w =>
  ⟨fun _ => decode_eq_config_iff, decode_eq_ok_iff_and_allOnes, decode_eq_ok_iff_and_allOnes,
    decode_eq_ok_iff_and_allOnes, coveringRows_length w⟩

/-! ## The illegal words (R63) -/

/-- The legal words by their fields. -/
theorem exists_decode_eq_ok_iff {w : Word} :
    (∃ i, decode w = .ok i) ↔ zeroField w = 0 ∧ (opcodeField w = 1 ∨
      ((opcodeField w = 2 ∨ opcodeField w = 3 ∨ opcodeField w = 4) ∧ dselField w = 0)) := by
  constructor
  · rintro ⟨i, h⟩
    obtain ⟨hz, ⟨ho, -⟩ | ⟨ho, hd, -⟩ | ⟨ho, hd, -⟩ | ⟨ho, hd, -⟩⟩ := fields_of_decode h
    · exact ⟨hz, .inl ho⟩
    · exact ⟨hz, .inr ⟨.inl ho, hd⟩⟩
    · exact ⟨hz, .inr ⟨.inr (.inl ho), hd⟩⟩
    · exact ⟨hz, .inr ⟨.inr (.inr ho), hd⟩⟩
  · rintro ⟨hz, ho | ⟨ho | ho | ho, hd⟩⟩
    · exact ⟨.config (dselField w), by simp [decode, hz, ho]⟩
    · exact ⟨.buildTable, by simp [decode, withoutOperand, hz, ho, hd]⟩
    · exact ⟨.generate, by simp [decode, withoutOperand, hz, ho, hd]⟩
    · exact ⟨.mesh, by simp [decode, withoutOperand, hz, ho, hd]⟩

theorem exists_decode_eq_error_iff {w : Word} : (∃ e, decode w = .error e) ↔ ¬ ∃ i, decode w = .ok i := by
  cases decode w <;> simp

/-- Writing an illegal word while running raises `ERR_BAD_CMD`. -/
theorem step_illegalWord {s : State} {w : Word} {e : IllegalWord} {rest : List HostEvent}
    (hp : s.pending = .txn (.writeReg 0x00 w) :: rest) (hd : decode w = .error e) (hf : s.fault = false) :
    step s = .next ((s.consume rest).setFault .badCmd) := by
  rw [step_cons hp]
  simp only [perform, transact, regOfOffset, hostWrite, issue, hd]
  exact whileRunning_running (s := s.consume rest) hf _

/-- Settles O4: the legal words by their fields, as numbers, and `step_illegalWord`. -/
theorem illegalWordsAreRefusedByDecodingAndFault : Obligations.IllegalWordsAreRefusedByDecodingAndFault := by
  refine ⟨fun w => ?_, fun s w e rest => step_illegalWord⟩
  rw [exists_decode_eq_error_iff, exists_decode_eq_ok_iff]
  simp only [← BitVec.toNat_inj, opcodeField_toNat, dselField_toNat, zeroField_toNat, BitVec.ofNat_eq_ofNat,
    BitVec.toNat_ofNat]
  omega

end Sys2Proof

/-! # The face record (30_encoding.md R70 to R77) -/

namespace Sys2Proof.Machine

/-! ## `Unpack` after `Pack` (R72, R73) -/

/-- The fields of a record above the position: the record without its low `POSW` bits. -/
def packHigh (f : Face) : Nat :=
  f.faceDir + f.ao0 * 2 ^ 3 + f.ao1 * 2 ^ 5 + f.ao2 * 2 ^ 7 + f.ao3 * 2 ^ 9 + f.materialId * 2 ^ 11

theorem pack_eq (p : Nat) (f : Face) : pack p f = f.posIndex + 2 ^ p * packHigh f := by
  simp only [pack, packHigh, pow_add]
  ring

theorem pack_div_mod {p : Nat} {f : Face} (h : f.posIndex < 2 ^ p) :
    pack p f / 2 ^ p = packHigh f ∧ pack p f % 2 ^ p = f.posIndex :=
  (Nat.div_mod_unique (Nat.two_pow_pos p)).2 ⟨(pack_eq p f).symm, h⟩

/-- Bits above the low `p` are bits of the quotient. -/
theorem bitsOf_div (r p lo n : Nat) : bitsOf (r / 2 ^ p) lo n = bitsOf r (p + lo) n := by
  rw [bitsOf, bitsOf, Nat.div_div_eq_div_mul, pow_add]

theorem bitsOf_packHigh {p : Nat} {f : Face} (h : f.legal p) :
    bitsOf (packHigh f) 0 3 = f.faceDir ∧ bitsOf (packHigh f) 3 2 = f.ao0 ∧ bitsOf (packHigh f) 5 2 = f.ao1 ∧
      bitsOf (packHigh f) 7 2 = f.ao2 ∧ bitsOf (packHigh f) 9 2 = f.ao3 ∧ bitsOf (packHigh f) 11 8 = f.materialId := by
  obtain ⟨-, hdir, h0, h1, h2, h3, hmat⟩ := h
  simp only [bitsOf, packHigh]
  omega

theorem unpack_pack {p : Nat} {f : Face} (h : f.legal p) : unpack p (pack p f) = f := by
  obtain ⟨hdiv, hmod⟩ := pack_div_mod h.1
  have hpos : bitsOf (pack p f) 0 p = f.posIndex := by rw [bitsOf, pow_zero, Nat.div_one, hmod]
  have hhigh (lo n : Nat) : bitsOf (pack p f) (p + lo) n = bitsOf (packHigh f) lo n := by rw [← bitsOf_div, hdiv]
  have hdirBits : bitsOf (pack p f) p 3 = bitsOf (packHigh f) 0 3 := hhigh 0 3
  obtain ⟨hdir, h0, h1, h2, h3, hmat⟩ := bitsOf_packHigh h
  simp only [unpack, hpos, hdirBits, hhigh, hdir, h0, h1, h2, h3, hmat]

/-- Settles O44: the position is the low bits, each other field its bits of `packHigh`. -/
theorem unpackInvertsPack : Obligations.UnpackInvertsPack := fun _ _ h => ⟨pack_lt h, unpack_pack h⟩

/-! ## The records of a successful `MESH` (42_mesher.md R158 to R160) -/

theorem eq_meshed_of_exec_mesh {s t : State} (hs : s.fault = false) (h : exec .mesh s = .next t)
    (ht : t.fault = false) : t = meshed s := by
  obtain ⟨hf, -⟩ | ⟨-, -, rfl⟩ | ⟨-, -, -, rfl⟩ | ⟨-, -, -, -, rfl⟩ | ⟨-, -, -, -, rfl⟩ := execMesh_cases h
  · exact absurd hf (by simp [hs])
  · cases ht
  · cases ht
  · cases ht
  · rfl

/-- A record loses nothing in the 34 bits of an element of `FB` (10_state.md R24). -/
theorem recordOf_toNat {s : State} {i : Nat} (hd : s.dsel.toNat ≤ 5) (hi : i < s.cellCount) (d : Dir) :
    (recordOf s i d).toNat = pack (posW s.dsel) (faceOf s i d) := by
  rw [recordOf, BitVec.toNat_ofNat]
  refine Nat.mod_eq_of_lt ((pack_lt (faceOf_legal hi d)).trans_le ?_)
  exact Nat.pow_le_pow_right (by decide) (by simp only [posW]; omega)

theorem exists_face_of_fbAt_meshed {s : State} {k : Nat} (hk : k < (visibleFaces s).length) :
    ∃ i d, i < s.cellCount ∧ solid (gridAt s i) = true ∧ fbAt (meshed s) k = recordOf s i d := by
  obtain ⟨hi, hv⟩ := (mem_visibleFaces s (visibleFaces s)[k].1 (visibleFaces s)[k].2).1 (List.getElem_mem hk)
  simp only [faceVisible, Bool.and_eq_true, and_assoc] at hv
  obtain ⟨hsolid, -⟩ := hv
  exact ⟨_, _, hi, hsolid, by rw [fbAt_meshed, dif_pos hk]⟩

/-- Settles O43: the record at `k` is the pack of a visible face's legal fields. -/
theorem everyRecordUnpacksToItsFace : Obligations.EveryRecordUnpacksToItsFace := by
  intro s t k hs hd h ht hk
  obtain rfl := eq_meshed_of_exec_mesh hs h ht
  rw [meshed_faceCount hd] at hk
  obtain ⟨i, d, hi, hsolid, hrec⟩ := exists_face_of_fbAt_meshed hk
  have hpack : (fbAt (meshed s) k).toNat = pack (posW s.dsel) (faceOf s i d) := by rw [hrec, recordOf_toNat hd hi d]
  obtain ⟨hne0, hne1⟩ := (solid_iff _).1 hsolid
  refine ⟨fbAt_meshed_lt hk, i, d, hi, hne0, hne1, ?_, ?_, dir_code_le d, aoLevel_le s i d 0, aoLevel_le s i d 1,
    aoLevel_le s i d 2, aoLevel_le s i d 3⟩
  · rintro P rfl
    exact hpack
  · rw [hpack]
    exact unpack_pack (faceOf_legal hi d)

/-! ## The face buffer as bytes (R76; 20_memory.md R49) -/

theorem bytesLE_eq_map (n v : Nat) : bytesLE n v = (List.range n).map fun j => BitVec.ofNat 8 (v / 256 ^ j) := by
  induction n generalizing v with
  | zero => rfl
  | succ n ih =>
    rw [bytesLE, ih, List.range_succ_eq_map]
    simp [Nat.div_div_eq_div_mul, pow_succ']

/-- `CW/8` for every dimension that can be held (00_scope.md R4). -/
theorem containerW_div_eight {dsel : BitVec 3} (h : dsel.toNat ≤ 5) :
    containerW dsel / 8 = if dsel = 5 then 8 else 4 := by
  revert dsel
  decide

theorem faceBufferBytes_eq (s : State) : faceBufferBytes s = (List.range s.faceCount.toNat).flatMap fun k =>
    (List.range (containerW s.dsel / 8)).map fun j => BitVec.ofNat 8 ((fbAt s k).toNat / 256 ^ j) := by
  simp only [faceBufferBytes, recordBytes, bytesLE_eq_map]

/-- Settles O52: the buffer is rows of `CW/8` bytes, one row for each record. -/
theorem theFaceBufferSerialisesLittleEndian : Obligations.TheFaceBufferSerialisesLittleEndian := by
  intro s n hd hn
  rw [← containerW_div_eight hd] at hn
  subst hn
  rw [faceBufferBytes_eq]
  exact ⟨by simp [List.length_flatMap], fun k j hk hj => rows_getElem? _ (fun k j =>
    BitVec.ofNat 8 ((fbAt s k).toNat / 256 ^ j)) _ k j hk hj⟩

/-! # Command lines of a host script, and the face directions (30_encoding.md R78, R65 to R67) -/

theorem writeCmd_config (k : BitVec 3) : writeCmd (0x01 + 16 * k.toNat) = .writeReg 0x00 (encode (.config k)) := by
  revert k
  decide

/-- Settles O53: `config D` writes the word of `log2 D`, the other lines the word of their command. -/
theorem scriptCommandLinesWriteCommandWords : Obligations.ScriptCommandLinesWriteCommandWords := by
  refine ⟨?_, fun d k => congrArg (fun x => [x]) (writeCmd_config k), fun d => ⟨rfl, rfl, rfl, rfl⟩⟩
  rintro d n k - - rfl
  simp only [ScriptLine.expand, Nat.log2_two_pow, writeCmd_config]

theorem covers_eq_decide (m : Mask) (d : Dir) : covers m d = decide (m.toNat / 2 ^ d.code % 2 = 1) :=
  Nat.testBit_eq_decide_div_mod_eq

/-- Settles O55: the rows of R65, and a mask's bit read as a binary digit of the mask. -/
theorem directionsFollowTheTable : Obligations.DirectionsFollowTheTable := by
  refine ⟨fun D => rfl, fun d m => ⟨?_, ?_, covers_eq_decide m d⟩⟩
  · cases d <;> rfl
  · cases d <;> rfl

end Sys2Proof.Machine

/-! # `CONFIG` and `BUILD_TABLE` (40_config_and_table.md) -/

namespace Sys2Proof.Machine

/-! ## `CONFIG` (R90 to R92) -/

theorem dsel_outOfRange_iff {d : BitVec 3} : (d.toNat < 1 ∨ 5 < d.toNat) ↔ d = 0 ∨ d = 6 ∨ d = 7 := by
  revert d
  decide

theorem exec_config_of_running {s : State} (hs : s.fault = false) (d : BitVec 3) :
    exec (.config d) s =
      if d.toNat < 1 ∨ 5 < d.toNat then raiseFault .badDim s
      else if s.params.scratchDepth < dimOf d * dimOf d then raiseFault .alloc s
      else .next (s.setConfigured d) := by
  rw [exec, execConfig, whileRunning_running hs]

/-- Settles O26: the two tests of R91 in their order, then the writes of R90. -/
theorem configFixesTheDimensionOrFaults : Obligations.ConfigFixesTheDimensionOrFaults := by
  intro s d hs
  have hrange (h1 : 1 ≤ d.toNat) (h5 : d.toNat ≤ 5) : ¬ (d.toNat < 1 ∨ 5 < d.toNat) := by omega
  have hsize : (2 ^ d.toNat) ^ 2 = dimOf d * dimOf d := sq _
  rw [exec_config_of_running hs, hsize]
  refine ⟨fun hd => ?_, fun h1 h5 hsmall => ?_, fun h1 h5 hfit => ?_⟩
  · rw [if_pos (dsel_outOfRange_iff.2 hd)]
    rfl
  · rw [if_neg (hrange h1 h5), if_pos hsmall]
    rfl
  · rw [if_neg (hrange h1 h5), if_neg (Nat.not_lt.2 hfit)]
    rfl

/-! ## `BUILD_TABLE` (R93 to R95) -/

theorem exec_buildTable_of_running {s : State} (hs : s.fault = false) :
    exec .buildTable s =
      if s.tblBuilt then raiseFault .tableRebuilt s else .next (s.setTable (occInitTable s.params)) := by
  rw [exec, execBuildTable, whileRunning_running hs]

/-- `OCC_INIT` has one mask per type, and all-false ones for air and cave-air (00_scope.md R5, 10_state.md R27). -/
theorem occInit_of_wellFormed {p : Params} (h : p.wellFormed = true) :
    p.occInit.length = p.nTypes ∧ ∃ rest, p.occInit = 0 :: 0 :: rest := by
  simp only [Params.wellFormed, Bool.and_eq_true, beq_iff_eq] at h
  obtain ⟨⟨⟨⟨⟨-, hlength⟩, hair⟩, -⟩, -⟩, -⟩ := h
  refine ⟨hlength, p.occInit.drop 2, ?_⟩
  calc p.occInit = p.occInit.take 2 ++ p.occInit.drop 2 := (List.take_append_drop 2 _).symm
    _ = 0 :: 0 :: p.occInit.drop 2 := by rw [hair]; rfl

/-- The table copies `OCC_INIT` when that has an element for every type. -/
theorem occInitTable_eq_occInit {p : Params} (h : p.occInit.length = p.nTypes) : occInitTable p = p.occInit := by
  refine List.ext_getElem (by simp [occInitTable, h]) fun k _ hk => ?_
  simp [occInitTable, hk]

/-- Settles O27: the table built is `OCC_INIT` itself, whose first two masks are all-false. -/
theorem buildTableWritesEachElementFromItsOwn : Obligations.BuildTableWritesEachElementFromItsOwn := by
  intro s hs hp
  obtain ⟨hlength, rest, hair⟩ := occInit_of_wellFormed hp
  rw [exec_buildTable_of_running hs]
  refine ⟨fun hb => ⟨s.setTable s.params.occInit, ?_, rfl, hlength, fun k hk => ?_, ?_, ?_⟩, fun hb => ?_⟩
  · rw [hb, occInitTable_eq_occInit hlength, if_neg Bool.false_ne_true]
  · have hk' : k < s.params.occInit.length := hlength ▸ hk
    simp [occAt, hk']
  · simp [occAt, hair]
  · simp [occAt, hair]
  · rw [if_pos hb]
    rfl

/-! ## What the two commands leave unchanged -/

/-- The operand registers (10_state.md R11). -/
def operandRegs : List Reg := [.cx, .cy, .cz, .seed, .noiseCfg, .heightBase, .caveCfg]

/-- The memories but `OCC`, and the operand registers as the host reads them. -/
def State.data (s : State) : Memory Byte × Memory Word × Memory Record × List Word :=
  (s.grid, s.scratch, s.fb, operandRegs.map (readReg s))

theorem reads_eq_of_data_eq {s t : State} (h : t.data = s.data) :
    (∀ a, gridAt t a = gridAt s a) ∧ (∀ a, scratchAt t a = scratchAt s a) ∧ (∀ a, fbAt t a = fbAt s a) ∧
      ∀ r ∈ operandRegs, readReg t r = readReg s r := by
  simp only [State.data, Prod.mk.injEq, List.map_inj_left] at h
  obtain ⟨hgrid, hscratch, hfb, hregs⟩ := h
  exact ⟨gridAt_congr hgrid, scratchAt_congr hscratch, fbAt_congr hfb, hregs⟩

theorem exec_config_keeps {s t : State} {d : BitVec 3} (h : exec (.config d) s = .next t) :
    t.data = s.data ∧ t.occ = s.occ ∧ t.tblBuilt = s.tblBuilt := by
  obtain ⟨-, rfl⟩ | ⟨-, -, rfl⟩ | ⟨-, -, -, -, rfl⟩ | ⟨-, -, -, -, rfl⟩ := execConfig_cases h <;>
    exact ⟨rfl, rfl, rfl⟩

theorem exec_buildTable_keeps {s t : State} (h : exec .buildTable s = .next t) :
    t.data = s.data ∧ t.dsel = s.dsel ∧ t.configured = s.configured ∧ t.faceCount = s.faceCount ∧
      t.isEmpty = s.isEmpty := by
  obtain ⟨-, rfl⟩ | ⟨-, -, rfl⟩ | ⟨-, -, rfl⟩ := execBuildTable_cases h <;> exact ⟨rfl, rfl, rfl, rfl, rfl⟩

/-- Settles O28: `exec_config_keeps` and `exec_buildTable_keeps`, read one element and one register at a time. -/
theorem configAndBuildTableFrame : Obligations.ConfigAndBuildTableFrame := by
  intro i s t hi h
  have hdata : t.data = s.data := by
    obtain ⟨d, rfl⟩ | rfl := hi
    · exact (exec_config_keeps h).1
    · exact (exec_buildTable_keeps h).1
  obtain ⟨hgrid, hscratch, hfb, hregs⟩ := reads_eq_of_data_eq hdata
  refine ⟨hgrid, hscratch, hfb, hregs, ?_, ?_⟩
  · rintro ⟨d, rfl⟩
    exact (exec_config_keeps h).2
  · rintro rfl
    exact (exec_buildTable_keeps h).2

end Sys2Proof.Machine

/-! # The noise kernel (41_generator.md sections 2 to 4) -/

namespace Sys2Proof.Machine

/-! ## `PERM` and the lattice hashes (R116, R118, R122) -/

/-- The rotation of R116 swaps the low five bits and the high three. -/
theorem rotl8_three_toNat (v : Byte) : (rotl8 v 3).toNat = v.toNat / 32 + 8 * (v.toNat % 32) := by
  have hv := v.isLt
  have hlow : v.toNat * 8 % 256 = (v.toNat % 32) <<< 3 := by rw [Nat.shiftLeft_eq]; omega
  have hhigh : v.toNat / 32 < 2 ^ 3 := by omega
  calc (rotl8 v 3).toNat
      = v.toNat * 8 % 256 ||| v.toNat / 32 := by
        simp [rotl8, BitVec.toNat_rotateLeft, Nat.shiftLeft_eq, Nat.shiftRight_eq_div_pow]
    _ = (v.toNat % 32) <<< 3 + v.toNat / 32 := by rw [hlow, Nat.shiftLeft_add_eq_or_of_lt hhigh]
    _ = v.toNat / 32 + 8 * (v.toNat % 32) := by rw [Nat.shiftLeft_eq]; omega

theorem rotl8_three_injective {v w : Byte} (h : rotl8 v 3 = rotl8 w 3) : v = w := by
  have hsum := congrArg BitVec.toNat h
  rw [rotl8_three_toNat, rotl8_three_toNat] at hsum
  have hv := v.isLt
  have hw := w.isLt
  have hhigh : v.toNat / 32 = w.toNat / 32 := by omega
  have hlow : v.toNat % 32 = w.toNat % 32 := by omega
  exact BitVec.eq_of_toNat_eq (by omega)

/-- The argument of the rotation in R116, as a number. -/
theorem permArg_toNat (k : Byte) : (2 * k * k + k).toNat = (2 * k.toNat * k.toNat + k.toNat) % 256 := by
  simp [BitVec.toNat_add, BitVec.toNat_mul, Nat.add_mod, Nat.mul_mod]

/-- The difference of two arguments is `(a - b) * (2*(a + b) + 1)`, whose second factor is odd. -/
theorem permArg_injective {a b : Byte} (h : 2 * a * a + a = 2 * b * b + b) : a = b := by
  have hmod : 2 * a.toNat * a.toNat + a.toNat ≡ 2 * b.toNat * b.toNat + b.toNat [MOD 256] := by
    rw [Nat.ModEq, ← permArg_toNat, ← permArg_toNat, h]
  have hdvd : (256 : Int) ∣ (b.toNat - a.toNat) * (2 * (a.toNat + b.toNat) + 1) := by
    have hsub := hmod.dvd
    push_cast at hsub
    convert hsub using 1
    ring
  have hodd : IsCoprime (256 : Int) (2 * (a.toNat + b.toNat) + 1) :=
    IsCoprime.pow_left (m := 8) (x := (2 : Int)) ⟨-((a.toNat : Int) + b.toNat), 1, by ring⟩
  have hdiff := hodd.dvd_of_dvd_mul_right hdvd
  have ha := a.isLt
  have hb := b.isLt
  exact BitVec.eq_of_toNat_eq (by omega)

theorem perm_injective : Function.Injective perm := fun _ _ h =>
  permArg_injective (rotl8_three_injective ((BitVec.xor_left_inj _).1 h))

theorem perm_toNat (k : Byte) :
    (perm k).toNat = ((2 * k.toNat * k.toNat + k.toNat) % 256 * 8 % 256 +
      (2 * k.toNat * k.toNat + k.toNat) % 256 / 32) ^^^ 0xA5 := by
  have hrotate (n : Nat) : n % 256 / 32 + 8 * (n % 256 % 32) = n % 256 * 8 % 256 + n % 256 / 32 := by omega
  rw [perm, BitVec.toNat_xor, rotl8_three_toNat, permArg_toNat, hrotate]
  rfl

theorem lowByte_emod (a : Int) : lowByte (a % 256) = lowByte a :=
  BitVec.eq_of_toNat_eq (by simp [lowByte, BitVec.toNat_ofInt])

theorem lowByte_add_mul (a k : Int) : lowByte (a + 256 * k) = lowByte a := by
  rw [← lowByte_emod, Int.add_mul_emod_self_left, lowByte_emod]

/-- The sum of a byte and a low byte (R118, R122) as the low byte of a sum of numbers. -/
theorem ofInt_toNat_add_emod (b : Byte) (a : Int) : BitVec.ofInt 8 (b.toNat + a % 256) = b + lowByte a :=
  calc BitVec.ofInt 8 (b.toNat + a % 256)
      = BitVec.ofNat 8 b.toNat + lowByte (a % 256) := by rw [BitVec.ofInt_add, BitVec.ofInt_natCast, lowByte]
    _ = b + lowByte a := by rw [BitVec.ofNat_toNat, BitVec.setWidth_eq, lowByte_emod]

/-- Settles O34: an injection of the 256 bytes is a permutation, and the hash takes low bytes alone. -/
theorem permIsAPermutationAndHashIsPeriodic : Obligations.PermIsAPermutationAndHashIsPeriodic := by
  refine ⟨fun _ _ h => perm_injective h, Finite.surjective_of_injective perm_injective, fun s a b k l => ?_,
    fun k n hn => ?_, fun s a b => ?_⟩
  · simp only [hash2, lowByte_add_mul]
  · rw [hn, perm_toNat]
  · rw [ofInt_toNat_add_emod, ofInt_toNat_add_emod, hash2]

/-! ## The lattice split (R119) -/

theorem fraction_cast (w : Word) (f : Nat) : (fraction w f : Int) = w.toInt % 2 ^ f :=
  Int.toNat_of_nonneg (Int.emod_nonneg _ (by positivity))

theorem fraction_lt (w : Word) (f : Nat) : fraction w f < 2 ^ f := by
  zify
  rw [fraction_cast]
  exact Int.emod_lt_of_pos _ (by positivity)

/-- A coordinate is in one lattice square only. -/
theorem asr_fraction_of_toInt_eq {w : Word} {f r : Nat} {i : Int} (hw : w.toInt = i * 2 ^ f + r) (hr : r < 2 ^ f) :
    asr w f = i ∧ fraction w f = r := by
  have hsplit := (Int.ediv_emod_unique (a := w.toInt) (by positivity : (0 : Int) < 2 ^ f)).2
    ⟨by rw [hw, Int.mul_comm, Int.add_comm], Int.natCast_nonneg r, by exact_mod_cast hr⟩
  exact ⟨hsplit.1, by zify; rw [fraction_cast, hsplit.2]⟩

/-- The fraction is the low bits of the register, since the sign weighs a multiple of `2^F`. -/
theorem fraction_eq_toNat_mod (w : Word) {f : Nat} (hf : f ≤ 32) : fraction w f = w.toNat % 2 ^ f := by
  have hlow : w.toInt % 2 ^ 32 = w.toNat % 2 ^ 32 := by
    rw [BitVec.toInt_eq_toNat_bmod]
    exact Int.bmod_emod
  zify
  calc (fraction w f : Int)
      = w.toInt % 2 ^ 32 % 2 ^ f := by rw [fraction_cast, Int.emod_emod_of_dvd _ (pow_dvd_pow 2 hf)]
    _ = w.toNat % 2 ^ 32 % 2 ^ f := by rw [hlow]
    _ = w.toNat % 2 ^ f := Int.emod_emod_of_dvd _ (pow_dvd_pow 2 hf)

/-- Settles O35: floor division and its remainder. -/
theorem latticeSplitIsExact : Obligations.LatticeSplitIsExact := by
  refine fun w f hf => ⟨?_, fraction_lt w f, fraction_eq_toNat_mod w (by omega)⟩
  rw [fraction_cast, asr, Int.ediv_mul_add_emod]

/-! ## The height noise (R120, R131) -/

/-- A weighted sum of two values is at most as large as the larger one with the whole weight. -/
theorem mix_le {p q m w x : Nat} (hp : p ≤ m) (hq : q ≤ m) (hx : x ≤ w) : p * (w - x) + q * x ≤ m * w :=
  calc p * (w - x) + q * x ≤ m * (w - x) + m * x := by gcongr
    _ = m * w := by rw [← Nat.mul_add, Nat.sub_add_cancel hx]

theorem heightBlend_le (s : Byte) (f : Nat) (wx wz : Word) : heightBlend s f wx wz ≤ 255 * (2 ^ f * 2 ^ f) := by
  have hbyte (v : Byte) : v.toNat ≤ 255 := Nat.le_of_lt_succ v.isLt
  have hx := (fraction_lt wx f).le
  rw [← Nat.mul_assoc]
  exact mix_le (mix_le (hbyte _) (hbyte _) hx) (mix_le (hbyte _) (hbyte _) hx) (fraction_lt wz f).le

/-- The final division of R120 loses no bit in a byte. -/
theorem heightNoise_toNat (s : Byte) (f : Nat) (wx wz : Word) :
    (heightNoise s f wx wz).toNat = heightBlend s f wx wz / (2 ^ f * 2 ^ f) := by
  have hle : heightBlend s f wx wz / (2 ^ f * 2 ^ f) ≤ 255 :=
    Nat.div_le_of_le_mul (by rw [Nat.mul_comm]; exact heightBlend_le s f wx wz)
  rw [heightNoise, BitVec.toNat_ofNat, Nat.mod_eq_of_lt (by omega)]

theorem heightNoise_of_latticePoint (s : Byte) {f : Nat} {wx wz : Word} (hx : fraction wx f = 0)
    (hz : fraction wz f = 0) : heightNoise s f wx wz = hash2 s (asr wx f) (asr wz f) := by
  have hblend : heightBlend s f wx wz = (hash2 s (asr wx f) (asr wz f)).toNat * (2 ^ f * 2 ^ f) := by
    simp [heightBlend, hx, hz, Nat.mul_assoc]
  exact BitVec.eq_of_toNat_eq (by rw [heightNoise_toNat, hblend, Nat.mul_div_cancel _ (by positivity)])

theorem fraction_zero (w : Word) : fraction w 0 = 0 := by simp [fraction]

theorem asr_zero (w : Word) : asr w 0 = w.toInt := by simp [asr]

/-- Settles O36: the bound is that of two weighted sums, and at a lattice point one hash has the whole weight. -/
theorem heightNoiseIsAnExactQuotient : Obligations.HeightNoiseIsAnExactQuotient := by
  intro s f wx wz hf
  have hle := heightBlend_le s f wx wz
  have hside : 2 ^ f ≤ 2 ^ 7 := Nat.pow_le_pow_right (by decide) hf
  have hlt : heightBlend s f wx wz < 2 ^ 22 :=
    calc heightBlend s f wx wz ≤ 255 * (2 ^ 7 * 2 ^ 7) := hle.trans (by gcongr)
      _ < 2 ^ 22 := by decide
  refine ⟨hle, hlt, heightNoise_toNat s f wx wz, heightNoise_of_latticePoint s, ?_⟩
  rw [heightNoise_of_latticePoint s (fraction_zero wx) (fraction_zero wz), asr_zero, asr_zero]

/-- Settles O58: the two nested blends multiplied out. -/
theorem heightNoiseBlendsFourLatticeHashes : Obligations.HeightNoiseBlendsFourLatticeHashes := by
  rintro s f fx fz _ ix iz wx wz - rfl hfx hfz hwx hwz
  obtain ⟨hix, hfx⟩ := asr_fraction_of_toInt_eq (by simpa using hwx) hfx
  obtain ⟨hiz, hfz⟩ := asr_fraction_of_toInt_eq (by simpa using hwz) hfz
  rw [heightNoise_toNat, heightBlend, hix, hfx, hiz, hfz]
  congr 1
  ring

/-! ## The cave noise (R122, R123) -/

/-- Settles O57: the three lattice coordinates are the same in the whole cube. -/
theorem caveNoiseIsConstantInsideALatticeCube : Obligations.CaveNoiseIsConstantInsideALatticeCube := by
  refine ⟨fun s a b c => ?_, fun s a b c k l m => ?_, fun s g dx dy dz a b c wx wy wz _ hx hy hz hwx hwy hwz => ?_⟩
  · have hseed : BitVec.ofNat 8 (s.toNat + 1) = s + 1 := by simp [BitVec.ofNat_add]
    simp only [ofInt_toNat_add_emod, hseed, hash3]
  · simp only [hash3, lowByte_add_mul]
  · rw [caveNoise, (asr_fraction_of_toInt_eq hwx hx).1, (asr_fraction_of_toInt_eq hwy hy).1,
      (asr_fraction_of_toInt_eq hwz hz).1]

end Sys2Proof.Machine

/-! # `GENERATE` (41_generator.md) -/

namespace Sys2Proof.Machine

/-! ## When it completes, and its frame (R110, R111, R129) -/

theorem exec_generate_of_unconfigured {s : State} (hs : s.fault = false) (hc : s.configured = false) :
    exec .generate s = raiseFault .badDim s := by
  rw [exec, execGenerate, whileRunning_running hs, hc]
  rfl

theorem exec_generate_of_configured {s : State} (hs : s.fault = false) (hc : s.configured = true) :
    exec .generate s = .next (generated s) := by
  rw [exec, execGenerate, whileRunning_running hs, hc]
  rfl

theorem eq_generated_of_exec {s t : State} (hs : s.fault = false) (hc : s.configured = true)
    (h : exec .generate s = .next t) : t = generated s := by
  rw [exec_generate_of_configured hs hc] at h
  injection h with h
  exact h.symm

/-- Settles O30: the one test of `GENERATE` is for a dimension. -/
theorem generateFaultsOnlyWithoutADimension : Obligations.GenerateFaultsOnlyWithoutADimension :=
  fun s hs => ⟨exec_generate_of_unconfigured hs, fun hc => ⟨generated s, exec_generate_of_configured hs hc, hs, rfl⟩⟩

theorem gridAt_generated_of_le {s : State} {i : Nat} (hi : s.dim ^ 3 ≤ i) : gridAt (generated s) i = gridAt s i := by
  refine (gridAt_setGridBlock _ _ i).trans (dif_neg ?_)
  rwa [List.length_map, List.length_range, not_lt]

theorem scratchAt_generated_of_le {s : State} {c : Nat} (hc : s.dim ^ 2 ≤ c) :
    scratchAt (generated s) c = scratchAt s c := by
  refine (scratchAt_setScratchBlock s _ c).trans (dif_neg ?_)
  rwa [columnHeights_length, ← sq, not_lt]

/-! ## Heights and cells by their coordinates (R112 to R114, R121) -/

section
variable (s : State) {x y z : Nat} (hx : x < s.dim) (hy : y < s.dim) (hz : z < s.dim)
include hx hy hz

/-- A cell follows from its world coordinate and the height stored for its column (R113). -/
theorem gridAt_generated_flatten3d :
    gridAt (generated s) (flatten3d x y z s.dim) =
      cellType s (worldCoord s.cx s.dim x) (worldCoord s.cy s.dim y) (worldCoord s.cz s.dim z)
        (scratchAt (generated s) (flatten2d x z s.dim)) := by
  rw [gridAt_generated s _ (flatten3d_lt hx hy hz), cellAt, unflatten3d_flatten3d hx hy z]
  rfl

/-- A cell follows from its world coordinate alone. -/
theorem gridAt_generated_eq_cellType_height :
    gridAt (generated s) (flatten3d x y z s.dim) =
      cellType s (worldCoord s.cx s.dim x) (worldCoord s.cy s.dim y) (worldCoord s.cz s.dim z)
        (height s (worldCoord s.cx s.dim x) (worldCoord s.cz s.dim z)) := by
  rw [gridAt_generated_flatten3d s hx hy hz, flatten2d, scratchAt_generated s x z hx hz]

end

theorem freqShift_eq (s : State) : freqShift s = s.noiseCfg.toNat % 8 := by simp [freqShift]

theorem amp_eq (s : State) : amp s = s.noiseCfg.toNat / 65536 := by
  have := s.noiseCfg.isLt
  simp only [amp, BitVec.extractLsb'_toNat, Nat.shiftRight_eq_div_pow]
  omega

/-- Settles O29: both passes read one element at a time, inside the chunk and beyond it. -/
theorem generateFillsHeightsAndCellsAndNothingElse : Obligations.GenerateFillsHeightsAndCellsAndNothingElse := by
  rintro s _ hs hc rfl
  refine ⟨generated s, exec_generate_of_configured hs hc, ?_, fun _ => gridAt_generated_of_le,
    fun _ => scratchAt_generated_of_le, rfl⟩
  rintro x z hx hz _ _ rfl rfl
  refine ⟨?_, ?_⟩
  · rw [← freqShift_eq, ← amp_eq]
    exact scratchAt_generated s x z hx hz
  · rintro y hy _ rfl
    exact gridAt_generated_flatten3d s hx hy hz

/-! ## One world behind all chunks (R127, R128) -/

/-- Chunks of one size cut from one world: the registers but the chunk's place agree. -/
structure SameWorld (s s' : State) : Prop where
  dsel : s.dsel = s'.dsel
  seed : s.seed = s'.seed
  noiseCfg : s.noiseCfg = s'.noiseCfg
  heightBase : s.heightBase = s'.heightBase
  caveCfg : s.caveCfg = s'.caveCfg

theorem SameWorld.dim_eq {s s' : State} (h : SameWorld s s') : s'.dim = s.dim := by
  rw [State.dim, State.dim, h.dsel]

/-- Cells at one world coordinate agree. -/
theorem SameWorld.gridAt_generated {s s' : State} (h : SameWorld s s') {x y z x' y' z' : Nat}
    (hx : x < s.dim) (hy : y < s.dim) (hz : z < s.dim) (hx' : x' < s.dim) (hy' : y' < s.dim) (hz' : z' < s.dim)
    (hwx : worldCoord s.cx s.dim x = worldCoord s'.cx s.dim x')
    (hwy : worldCoord s.cy s.dim y = worldCoord s'.cy s.dim y')
    (hwz : worldCoord s.cz s.dim z = worldCoord s'.cz s.dim z') :
    gridAt (generated s) (flatten3d x y z s.dim) = gridAt (generated s') (flatten3d x' y' z' s.dim) := by
  have hcell' := gridAt_generated_eq_cellType_height s' (h.dim_eq ▸ hx') (h.dim_eq ▸ hy') (h.dim_eq ▸ hz')
  rw [h.dim_eq] at hcell'
  rw [gridAt_generated_eq_cellType_height s hx hy hz, hcell', hwx, hwy, hwz, cellType_congr h.seed h.caveCfg,
    height_congr h.seed h.noiseCfg h.heightBase]

/-- Settles O33: a cell's type follows from its world coordinate. -/
theorem theWorldIsContinuousAcrossChunks : Obligations.TheWorldIsContinuousAcrossChunks := by
  rintro s s' t t' _ x y z x' y' z' hs hc hs' hc' hdsel hseed hnoise hbase hcave rfl hx hy hz hx' hy' hz' hwx hwy hwz
    h h'
  rw [eq_generated_of_exec hs hc h, eq_generated_of_exec hs' hc' h']
  exact SameWorld.gridAt_generated ⟨hdsel, hseed, hnoise, hbase, hcave⟩ hx hy hz hx' hy' hz' hwx hwy hwz

/-- Settles O32: the same chunk of the same world, cell by cell. -/
theorem generationIsDeterministic : Obligations.GenerationIsDeterministic := by
  intro s s' t t' hs hc hs' hc' hdsel hcx hcy hcz hseed hnoise hbase hcave h h' i hi
  obtain ⟨hx, hy, hz⟩ := unflatten3d_lt hi
  rw [eq_generated_of_exec hs hc h, eq_generated_of_exec hs' hc' h', ← flatten3d_unflatten3d i s.dim]
  exact SameWorld.gridAt_generated ⟨hdsel, hseed, hnoise, hbase, hcave⟩ hx hy hz hx hy hz (by rw [hcx]) (by rw [hcy])
    (by rw [hcz])

/-! ## The types of cells (R124 to R126) -/

/-- The test of R124 on the bits of `CAVE_CFG`. -/
theorem carved_iff (s : State) (wx wy wz : Word) :
    carved s wx wy wz = true ↔ s.caveCfg.toNat % 2 = 1 ∧ s.caveCfg.toNat / 256 % 256 <
      (caveNoise (seedByte s.seed) (s.caveCfg.toNat / 16 % 8) wx wy wz).toNat := by
  simp [carved, caveEn, caveThr, caveShift, BitVec.lt_def, BitVec.getLsbD, Nat.shiftRight_eq_div_pow]

theorem layer_eq (n : Int) : layer n = if n = 1 then 4 else if n ≤ 4 then 3 else 2 := rfl

/-- R126 as one table over the depth. -/
theorem cellType_eq (s : State) (wx wy wz h : Word) :
    cellType s wx wy wz h =
      if depth h wy ≤ 0 then 0 else if depth h wy = 1 then 4 else if carved s wx wy wz then 1
      else if depth h wy ≤ 4 then 3 else 2 := by
  have hair : ¬ wy.toInt < h.toInt ↔ depth h wy ≤ 0 := by rw [depth]; omega
  simp only [cellType, hair, layer_eq]
  by_cases h0 : depth h wy ≤ 0
  · rw [if_pos h0, if_pos h0, BlockType.air]
  · by_cases h1 : depth h wy = 1
    · simp [h1]
    · have h2 : 2 ≤ depth h wy := by omega
      simp [h0, h1, h2, BlockType.caveAir]

/-- Settles O31: the table of `cellType_eq`, read at each depth. -/
theorem generatedCellsFollowDepthAndCaves : Obligations.GeneratedCellsFollowDepthAndCaves := by
  rintro s t _ x y z _ _ _ hs hc h rfl hx hy hz rfl rfl rfl
  rw [eq_generated_of_exec hs hc h]
  intro δ cell carve
  have hcell : cell = if δ ≤ 0 then 0 else if δ = 1 then 4 else if carved s _ _ _ then 1 else if δ ≤ 4 then 3 else 2 :=
    (gridAt_generated_flatten3d s hx hy hz).trans (cellType_eq s _ _ _ _)
  have hcarve : carved s (worldCoord s.cx s.dim x) (worldCoord s.cy s.dim y) (worldCoord s.cz s.dim z) = true ↔ carve :=
    carved_iff s _ _ _
  rw [← hcarve]
  generalize carved s _ _ _ = cut at hcell hcarve ⊢
  refine ⟨fun h0 => ?_, fun h1 => ?_, fun h2 hcut => ?_, fun h2 h4 hcut => ?_, fun h5 hcut => ?_, ?_, fun hoff => ?_⟩
  · rw [hcell, if_pos h0]
  · rw [hcell, if_neg (by omega), if_pos h1]
  · rw [hcell, if_neg (by omega), if_neg (by omega), if_pos hcut]
  · rw [hcell, if_neg (by omega), if_neg (by omega), if_neg hcut, if_pos h4]
  · rw [hcell, if_neg (by omega), if_neg (by omega), if_neg hcut, if_neg (by omega)]
  · rw [hcell]
    split_ifs <;> decide
  · have huncut : ¬ cut = true := fun hcut => by
      obtain ⟨hen, hthr⟩ := hcarve.1 hcut
      omega
    rw [hcell, if_neg huncut]
    split_ifs <;> decide

/-! ## The seed byte (R117) -/

theorem seedByte_toNat (w : Word) : (seedByte w).toNat =
    (w.toNat % 256) ^^^ (w.toNat / 2 ^ 8 % 256) ^^^ (w.toNat / 2 ^ 16 % 256) ^^^ (w.toNat / 2 ^ 24 % 256) := by
  simp [seedByte, Nat.shiftRight_eq_div_pow]

section
variable {s : State} {seed : Word} (h : seedByte seed = seedByte s.seed)
include h

theorem height_of_seedByte_eq : height { s with seed := seed } = height s := by
  funext wx wz
  simp only [height, h]
  rfl

theorem cellType_of_seedByte_eq : cellType { s with seed := seed } = cellType s := by
  funext wx wy wz height
  simp only [cellType, carved, h]
  rfl

theorem columnHeights_of_seedByte_eq (d : Nat) : columnHeights { s with seed := seed } d = columnHeights s d := by
  simp only [columnHeights, height_of_seedByte_eq h]

theorem cellAt_of_seedByte_eq (d : Nat) : cellAt { s with seed := seed } d = cellAt s d := by
  funext i
  simp only [cellAt, cellType_of_seedByte_eq h]
  rfl

theorem generated_of_seedByte_eq : generated { s with seed := seed } = { generated s with seed := seed } := by
  have hcells := cellAt_of_seedByte_eq (s := s.setScratchBlock (columnHeights s s.dim)) h s.dim
  simp only [generated, columnHeights_of_seedByte_eq h]
  exact congrArg (fun f => ({ s.setScratchBlock (columnHeights s s.dim) with seed := seed } : State).setGridBlock
    ((List.range s.cellCount).map f)) hcells

end

/-- Settles O56: every use of the seed in the two passes is a use of its byte. -/
theorem theSeedMattersOnlyThroughItsByte : Obligations.TheSeedMattersOnlyThroughItsByte := by
  refine ⟨seedByte_toNat, fun s t t' seed hs hc hseed h h' => ?_⟩
  rw [eq_generated_of_exec hs hc h, eq_generated_of_exec (s := { s with seed := seed }) hs hc h',
    generated_of_seedByte_eq hseed]

end Sys2Proof.Machine

/-! # Block writes (R110, 42_mesher.md R140, 20_memory.md R46) -/

namespace Sys2Proof.Machine

variable {α : Type}

theorem numberFrom_concat (k : Nat) (vals : List α) (v : α) :
    numberFrom k (vals ++ [v]) = numberFrom k vals ++ [(k + vals.length, v)] := by
  induction vals generalizing k with
  | nil => rfl
  | cons u rest ih => simp only [List.cons_append, numberFrom, ih, List.length_cons]; congr 4; omega

/-- An insertion passes the cells of lower index. -/
theorem insertCell_append {i : Nat} (v : α) {low high : List (Nat × α)} (h : ∀ c ∈ low, c.1 < i) :
    insertCell i v (low ++ high) = low ++ insertCell i v high := by
  induction low with
  | nil => rfl
  | cons c rest ih =>
    obtain ⟨hc, hrest⟩ := List.forall_mem_cons.1 h
    rw [List.cons_append, insertCell, if_neg (by omega), if_neg (by omega), ih hrest]
    rfl

/-- Among the cells from index `i` on, an insertion at `i` comes first, in the place of the cell that was there. -/
theorem insertCell_filter_ge (i : Nat) (v : α) {cs : List (Nat × α)} (h : cs.Pairwise fun a b => a.1 < b.1) :
    insertCell i v (cs.filter fun c => i ≤ c.1) = (i, v) :: cs.filter fun c => i < c.1 := by
  induction cs with
  | nil => rfl
  | cons c rest ih =>
    obtain ⟨hc, hrest⟩ := List.pairwise_cons.1 h
    obtain ⟨k, u⟩ := c
    by_cases hlt : k < i
    · rw [List.filter_cons_of_neg (by simpa using hlt), List.filter_cons_of_neg (by simpa using hlt.le), ih hrest]
    · have hgt : ∀ c ∈ rest, i < c.1 := fun c hmem => lt_of_le_of_lt (Nat.le_of_not_lt hlt) (hc c hmem)
      have hge : ∀ c ∈ rest, i ≤ c.1 := fun c hmem => (hgt c hmem).le
      have hkeep : rest.filter (fun c => i < c.1) = rest := List.filter_eq_self.2 (by simpa using hgt)
      have hkeep' : rest.filter (fun c => i ≤ c.1) = rest := List.filter_eq_self.2 (by simpa using hge)
      obtain rfl | hne := eq_or_ne i k
      · simp [insertCell, hkeep, hkeep']
      · have hik : i < k := by omega
        simp [insertCell, hkeep, hkeep', hik, hik.le]

namespace Memory

theorem writeBlock_nil (m : Memory α) : m.writeBlock [] = m := by simp [writeBlock, numberFrom]

/-- A block one longer is one more write, after the block. -/
theorem writeBlock_concat {m : Memory α} (h : m.wf) (vals : List α) (v : α) :
    m.writeBlock (vals ++ [v]) = (m.writeBlock vals).write vals.length v := by
  have hlow : ∀ c ∈ numberFrom 0 vals, c.1 < vals.length := fun c hc => by simpa using (mem_numberFrom hc).2
  simp [writeBlock, write, insertCell_append v hlow, insertCell_filter_ge vals.length v h, numberFrom_concat]

end Memory

/-- Settles O38, by induction on the length of the block: its last value is the loop's last write. -/
theorem aBlockWriteIsTheAscendingLoop : Obligations.ABlockWriteIsTheAscendingLoop := by
  intro α m vals hm
  induction vals using List.reverseRecOn with
  | nil => exact m.writeBlock_nil
  | append_singleton vals v ih =>
    rw [Memory.writeBlock_concat hm, ih, List.zipIdx_append, List.foldl_append]
    simp

end Sys2Proof.Machine

/-! # `MESH` (42_mesher.md) -/

namespace Sys2Proof.Machine

/-! ## Its faults and its frame (R140 to R142, R162) -/

section

variable {s : State} (hs : s.fault = false)
include hs

theorem exec_mesh_of_unconfigured (hc : s.configured = false) : exec .mesh s = raiseFault .badDim s := by
  simp [exec, execMesh, whileRunning_running hs, hc]

theorem exec_mesh_of_unbuilt (hc : s.configured = true) (hb : s.tblBuilt = false) :
    exec .mesh s = raiseFault .tableUnbuilt s := by
  simp [exec, execMesh, whileRunning_running hs, hc, hb]

theorem exec_mesh_of_badType (hc : s.configured = true) (hb : s.tblBuilt = true) (ht : hasBadType s = true) :
    exec .mesh s = raiseBadType s := by
  simp [exec, execMesh, whileRunning_running hs, hc, hb, ht]

theorem exec_mesh_of_wellFormed (hc : s.configured = true) (hb : s.tblBuilt = true) (ht : hasBadType s = false) :
    exec .mesh s = .next (meshed s) := by
  simp [exec, execMesh, whileRunning_running hs, hc, hb, ht]

end

theorem hasBadType_eq_false_iff {s : State} :
    hasBadType s = false ↔ ∀ i, i < s.cellCount → (gridAt s i).toNat < s.params.nTypes := by
  simp [← Bool.not_eq_true, hasBadType_iff]

/-- Settles O40: the tests of `MESH` in their order; every byte is a registered code when `NTYPES = 256`. -/
theorem meshFaultsInOrder : Obligations.MeshFaultsInOrder := by
  intro s hs
  refine ⟨exec_mesh_of_unconfigured hs, exec_mesh_of_unbuilt hs, fun hc hb hbad => ?_, fun hn t h hf => ?_⟩
  · exact ⟨_, exec_mesh_of_badType hs hc hb ((hasBadType_iff s).2 hbad), rfl, rfl⟩
  · have hgood : hasBadType s = false := hasBadType_eq_false_iff.2 fun i _ => (gridAt s i).isLt.trans_le hn
    obtain ⟨hhalt, -⟩ | ⟨-, -, rfl⟩ | ⟨-, -, -, rfl⟩ | ⟨-, -, -, hbad, -⟩ | ⟨-, -, -, -, rfl⟩ := execMesh_cases h
    · simp [hs] at hhalt
    · simp [ErrCode.code]
    · simp [ErrCode.code]
    · simp [hgood] at hbad
    · simp [meshed, hs] at hf

/-- Whatever `MESH` answers, it writes the flags of a fault and its three results, beside the model's own counter. -/
theorem exec_mesh_frame {s t : State} (h : exec .mesh s = .next t) :
    t = { s with fault := t.fault, err := t.err, fb := t.fb, faceCount := t.faceCount, isEmpty := t.isEmpty,
                 nextFree := t.nextFree } := by
  obtain ⟨-, rfl⟩ | ⟨-, -, rfl⟩ | ⟨-, -, -, rfl⟩ | ⟨-, -, -, -, rfl⟩ | ⟨-, -, -, -, rfl⟩ := execMesh_cases h <;> rfl

/-- A successful `MESH` leaves the elements of `FB` above its records (R151). -/
theorem fbAt_meshed_of_le {s : State} {k : Nat} (hk : (visibleFaces s).length ≤ k) : fbAt (meshed s) k = fbAt s k := by
  rw [fbAt_meshed, dif_neg (Nat.not_lt.2 hk)]

/-- Settles O41: `exec_mesh_frame`, and for the results the five answers of `MESH`. -/
theorem meshFrame : Obligations.MeshFrame := by
  intro s t hd h
  have hframe := exec_mesh_frame h
  have hregs : ([.dim, .cx, .cy, .cz, .seed, .noiseCfg, .heightBase, .caveCfg] : List Reg).map (readReg t) =
      [.dim, .cx, .cy, .cz, .seed, .noiseCfg, .heightBase, .caveCfg].map (readReg s) := by rw [hframe]; rfl
  refine ⟨gridAt_congr (by rw [hframe]), scratchAt_congr (by rw [hframe]), by rw [hframe], by rw [hframe],
    by rw [hframe], by rw [hframe], List.map_inj_left.1 hregs, ?_⟩
  obtain ⟨hf, rfl⟩ | ⟨-, -, rfl⟩ | ⟨-, -, -, rfl⟩ | ⟨hf, -, -, -, rfl⟩ | ⟨hf, -, -, -, rfl⟩ := execMesh_cases h
  · exact ⟨fun ht => by simp [hf] at ht, fun _ _ => ⟨fun _ => rfl, rfl, rfl⟩⟩
  · exact ⟨nofun, fun _ _ => ⟨fun _ => rfl, rfl, rfl⟩⟩
  · exact ⟨nofun, fun _ _ => ⟨fun _ => rfl, rfl, rfl⟩⟩
  · exact ⟨nofun, fun _ hcode => by simp [ErrCode.code, hf] at hcode⟩
  · exact ⟨fun _ => ⟨rfl, fun k hk => fbAt_meshed_of_le (meshed_faceCount hd ▸ hk)⟩,
      fun ht => by simp [meshed, hf] at ht⟩

end Sys2Proof.Machine

/-! # Neighbours by index arithmetic (42_mesher.md R145 to R147) -/

namespace Sys2Proof.Machine

/-- A step in one direction is undone by a step in the opposite one. -/
theorem neighbour_opp_eq {s : State} {i j : Nat} {d : Dir} (h : neighbour s i d = j) : neighbour s j d.opp = i := by
  have hoff : d.opp.off s.dim = -d.off s.dim := by cases d <;> simp [Dir.opp, Dir.off]
  rw [neighbour] at h ⊢
  rw [hoff, ← h, Int.add_neg_cancel_right]

theorem dim_pos (s : State) : 0 < s.dim := Nat.two_pow_pos _

/-! ## One step along an axis, and the wrap at its end (R146) -/

/-- One step beyond the end of the `y` axis is the next row. -/
theorem flatten3d_y_end (x z d : Nat) : flatten3d x d z d = flatten3d (x + 1) 0 z d := by
  simp only [flatten3d]
  ring

/-- One step beyond the end of the `x` axis is the next slice. -/
theorem flatten3d_x_end (y z d : Nat) : flatten3d d y z d = flatten3d 0 y (z + 1) d := by
  simp only [flatten3d]
  ring

section

variable (s : State) (x y z : Nat)

theorem neighbour_front : neighbour s (flatten3d x y z s.dim) .front = flatten3d x y (z + 1) s.dim := by
  simp only [neighbour, Dir.off, flatten3d]
  push_cast
  ring

theorem neighbour_top : neighbour s (flatten3d x y z s.dim) .top = flatten3d x (y + 1) z s.dim := by
  simp only [neighbour, Dir.off, flatten3d]
  push_cast
  ring

theorem neighbour_left : neighbour s (flatten3d x y z s.dim) .left = flatten3d (x + 1) y z s.dim := by
  simp only [neighbour, Dir.off, flatten3d]
  push_cast
  ring

variable {x y z}

theorem neighbour_top_end (hy : y + 1 = s.dim) :
    neighbour s (flatten3d x y z s.dim) .top = flatten3d (x + 1) 0 z s.dim := by
  rw [neighbour_top, hy, flatten3d_y_end]

theorem neighbour_left_end (hx : x + 1 = s.dim) :
    neighbour s (flatten3d x y z s.dim) .left = flatten3d 0 y (z + 1) s.dim := by
  rw [neighbour_left, hx, flatten3d_x_end]

theorem neighbour_top_corner (hy : y + 1 = s.dim) (hx : x + 1 = s.dim) :
    neighbour s (flatten3d x y z s.dim) .top = flatten3d 0 0 (z + 1) s.dim := by
  rw [neighbour_top_end s hy, hx, flatten3d_x_end]

/-! The steps backward are the steps forward undone. -/

theorem neighbour_back (hz : 0 < z) : neighbour s (flatten3d x y z s.dim) .back = flatten3d x y (z - 1) s.dim := by
  have h := neighbour_opp_eq (neighbour_front s x y (z - 1))
  rwa [Nat.sub_add_cancel hz] at h

theorem neighbour_bottom (hy : 0 < y) : neighbour s (flatten3d x y z s.dim) .bottom = flatten3d x (y - 1) z s.dim := by
  have h := neighbour_opp_eq (neighbour_top s x (y - 1) z)
  rwa [Nat.sub_add_cancel hy] at h

theorem neighbour_right (hx : 0 < x) : neighbour s (flatten3d x y z s.dim) .right = flatten3d (x - 1) y z s.dim := by
  have h := neighbour_opp_eq (neighbour_left s (x - 1) y z)
  rwa [Nat.sub_add_cancel hx] at h

theorem neighbour_bottom_end (hx : 0 < x) :
    neighbour s (flatten3d x 0 z s.dim) .bottom = flatten3d (x - 1) (s.dim - 1) z s.dim := by
  have h := neighbour_opp_eq (neighbour_top_end s (x := x - 1) (z := z) (Nat.sub_add_cancel (dim_pos s)))
  rwa [Nat.sub_add_cancel hx] at h

theorem neighbour_bottom_corner (hz : 0 < z) :
    neighbour s (flatten3d 0 0 z s.dim) .bottom = flatten3d (s.dim - 1) (s.dim - 1) (z - 1) s.dim := by
  have hlast := Nat.sub_add_cancel (dim_pos s)
  have h := neighbour_opp_eq (neighbour_top_corner s (z := z - 1) hlast hlast)
  rwa [Nat.sub_add_cancel hz] at h

theorem neighbour_right_end (hz : 0 < z) :
    neighbour s (flatten3d 0 y z s.dim) .right = flatten3d (s.dim - 1) y (z - 1) s.dim := by
  have h := neighbour_opp_eq (neighbour_left_end s (y := y) (z := z - 1) (Nat.sub_add_cancel (dim_pos s)))
  rwa [Nat.sub_add_cancel hz] at h

end

/-! ## Absent neighbours (R147) -/

theorem inChunk_eq_false_iff {s : State} {j : Int} : inChunk s j = false ↔ j < 0 ∨ (s.cellCount : Int) ≤ j := by
  rw [← Bool.not_eq_true, inChunk_iff]
  omega

/-- A forward neighbour is absent at the last cells, a backward one at the first: as many as the step is long. -/
theorem inChunk_neighbour_eq_false_iff {s : State} {i : Nat} (hi : i < s.cellCount) (d : Dir) :
    inChunk s (neighbour s i d) = false ↔
      if 0 ≤ d.off s.dim then s.cellCount - (d.off s.dim).natAbs ≤ i else i < (d.off s.dim).natAbs := by
  rw [inChunk_eq_false_iff, neighbour]
  split <;> omega

/-- No step is longer than the chunk. -/
theorem off_natAbs_le (s : State) (d : Dir) : (d.off s.dim).natAbs ≤ s.cellCount := by
  have hpos := dim_pos s
  have h1 : 1 ≤ s.dim ^ 3 := Nat.one_le_pow _ _ hpos
  have hD : s.dim ≤ s.dim ^ 3 := Nat.le_self_pow (by decide) _
  have hD2 : s.dim ^ 2 ≤ s.dim ^ 3 := Nat.pow_le_pow_right hpos (by decide)
  cases d <;> simpa [Dir.off, Int.natAbs_pow, State.cellCount]

/-- Among the indices below `n`, `n - m` are at least `m`. -/
theorem length_filter_range_ge (n m : Nat) : ((List.range n).filter fun i => decide (m ≤ i)).length = n - m := by
  rw [← List.Ico.zero_bot, List.Ico.filter_le, List.Ico.length, Nat.zero_max]

theorem length_filter_range_lt {n m : Nat} (h : m ≤ n) :
    ((List.range n).filter fun i => decide (i < m)).length = m := by
  rw [← List.Ico.zero_bot, List.Ico.filter_lt, List.Ico.length, Nat.min_eq_right h, Nat.sub_zero]

/-- As many neighbours are absent in a direction as its step is long. -/
theorem length_absent (s : State) (d : Dir) :
    ((List.range s.cellCount).filter fun i => !inChunk s (neighbour s i d)).length = (d.off s.dim).natAbs := by
  have hle := off_natAbs_le s d
  have habsent : ∀ i ∈ List.range s.cellCount, (!inChunk s (neighbour s i d)) =
      decide (if 0 ≤ d.off s.dim then s.cellCount - (d.off s.dim).natAbs ≤ i else i < (d.off s.dim).natAbs) :=
    fun i hi => by
      rw [Bool.eq_iff_iff, decide_eq_true_iff, ← inChunk_neighbour_eq_false_iff (List.mem_range.1 hi),
        Bool.not_eq_true']
  rw [List.filter_congr habsent]
  by_cases hfwd : 0 ≤ d.off s.dim
  · simp only [if_pos hfwd, length_filter_range_ge]
    omega
  · simp only [if_neg hfwd, length_filter_range_lt hle]

/-- Settles O49: the length of each step, as `inChunk_neighbour_eq_false_iff` and `length_absent` ask for it. -/
theorem neighboursAreAbsentExactlyAtTheEnds : Obligations.NeighboursAreAbsentExactlyAtTheEnds := by
  intro s D N hD hN
  obtain rfl : D = s.dim := hD
  obtain rfl : N = s.cellCount := hN
  refine ⟨fun i hi => ?_, fun d => ?_⟩
  · have hpos := (dim_pos s).ne'
    have habsent := inChunk_neighbour_eq_false_iff hi
    refine ⟨(habsent .front).trans ?_, (habsent .back).trans ?_, (habsent .top).trans ?_, (habsent .bottom).trans ?_,
      (habsent .left).trans ?_, (habsent .right).trans ?_⟩
    · simp [Dir.off, Int.natAbs_pow]
    · simp [Dir.off, Int.natAbs_pow, hpos]
    · simp [Dir.off]; omega
    · simp [Dir.off]
    · simp [Dir.off]
    · simp [Dir.off, hpos]
  · rw [length_absent]
    cases d <;> simp [Dir.off, Int.natAbs_pow]

/-- The first slice is the cells below `D²`. -/
theorem flatten3d_zero_lt {x y d : Nat} (hx : x < d) (hy : y < d) : flatten3d x y 0 d < d ^ 2 :=
  calc flatten3d x y 0 d = y + d * x := by rw [flatten3d_eq, flatten2d_eq, Nat.mul_zero, Nat.add_zero]
    _ < d * d := Nat.add_mul_lt_mul_of_lt_of_lt hy hx
    _ = d ^ 2 := (sq d).symm

/-- The last slice is the cells from `D³ - D²` on. -/
theorem le_flatten3d_last (x y d : Nat) : d ^ 3 ≤ flatten3d x y d d := by
  simp only [flatten3d, ← pow_succ', Nat.add_assoc]
  exact Nat.le_add_right _ _

/-- Settles O48: a step along an axis, or the step after its wrap. -/
theorem neighbourIndicesWrapAsTheTableSays : Obligations.NeighbourIndicesWrapAsTheTableSays := by
  intro s D x y z hD hx hy hz
  obtain rfl : D = s.dim := hD
  refine ⟨fun _ => neighbour_front s x y z, fun hz' => ?_, neighbour_back s, fun hz' => ?_,
    fun _ => neighbour_top s x y z, fun hy' _ => neighbour_top_end s hy', neighbour_top_corner s, neighbour_bottom s,
    fun hy' hx' => ?_, fun hy' hx' hz' => ?_, fun _ => neighbour_left s x y z, neighbour_left_end s, neighbour_right s,
    fun hx' hz' => ?_⟩
  · refine inChunk_eq_false_iff.2 (.inr ?_)
    simp only [neighbour_front, hz']
    exact Int.ofNat_le.2 (le_flatten3d_last x y s.dim)
  · have hfirst : flatten3d x y z s.dim < s.dim ^ 2 := hz' ▸ flatten3d_zero_lt hx hy
    refine inChunk_eq_false_iff.2 (.inl ?_)
    simp only [neighbour, Dir.off]
    zify at hfirst
    omega
  · subst hy'
    exact neighbour_bottom_end s hx'
  · subst hy' hx'
    exact neighbour_bottom_corner s hz'
  · subst hx'
    exact neighbour_right_end s hz'

end Sys2Proof.Machine

/-! # The faces `MESH` emits (42_mesher.md R143, R144, R150, R151) -/

namespace Sys2Proof.Machine

/-! ## Which, and in which order -/

/-- The three conditions of R150. -/
theorem faceVisible_iff {s : State} {i : Nat} {d : Dir} : faceVisible s i d = true ↔
    gridAt s i ≠ 0 ∧ gridAt s i ≠ 1 ∧ 0 ≤ neighbour s i d ∧ neighbour s i d < s.cellCount ∧
      covers (maskAt s (neighbour s i d)) d.opp = false := by
  simp only [faceVisible, Bool.and_eq_true, solid_iff, inChunk_iff, Bool.not_eq_true', and_assoc]

theorem not_solid_iff {t : Byte} : (!solid t) = true ↔ t = 0 ∨ t = 1 := by
  rw [Bool.not_eq_true', ← Bool.not_eq_true, solid_iff]
  tauto

theorem meshEmpty_iff {s : State} :
    meshEmpty s = true ↔ ∀ i, i < s.cellCount → gridAt s i = 0 ∨ gridAt s i = 1 := by
  simp only [meshEmpty, List.all_eq_true, List.mem_range, not_solid_iff]

/-- Ascending cell index, then ascending direction code (R143). -/
theorem visibleFaces_pairwise (s : State) :
    (visibleFaces s).Pairwise fun a b => 6 * a.1 + a.2.code < 6 * b.1 + b.2.code := by
  refine List.pairwise_flatMap.2 ⟨fun i _ => ?_, List.pairwise_lt_range.imp fun {i j} hij => ?_⟩
  · have hcodes : Dir.all.Pairwise fun d e => d.code < e.code := by decide
    exact List.pairwise_map.2 ((hcodes.filter _).imp fun h => Nat.add_lt_add_left h _)
  · simp only [cellFaces, List.mem_map]
    rintro _ ⟨d, -, rfl⟩ _ ⟨e, -, rfl⟩
    have hd := dir_code_le d
    show 6 * i + d.code < 6 * j + e.code
    omega

/-- Settles O39: the faces are `visibleFaces`, and a successful scan leaves their records. -/
theorem meshEmitsExactlyTheVisibleFacesInOrder : Obligations.MeshEmitsExactlyTheVisibleFacesInOrder := by
  intro s D hs hc hb hd hD htypes
  obtain rfl : D = s.dim := hD
  refine ⟨meshed s, visibleFaces s, exec_mesh_of_wellFormed hs hc hb (hasBadType_eq_false_iff.2 htypes),
    visibleFaces_pairwise s, fun i d => ?_, meshed_faceCount hd, fun k i d hk => ?_, fun k => fbAt_meshed_of_le,
    meshEmpty_iff, rfl⟩
  · rw [mem_visibleFaces, faceVisible_iff]
    rfl
  · obtain ⟨hlt, hface⟩ := List.getElem?_eq_some_iff.1 hk
    rw [fbAt_meshed, dif_pos hlt, hface]

/-! ## When there are none (R161, R165) -/

theorem meshed_faceCount_of_no_faces {s : State} (h : visibleFaces s = []) : (meshed s).faceCount = 0 := by
  simp [meshed, h]

/-- Settles O45: without a solid cell the scan lists no face. -/
theorem anAirChunkMeshesToNothing : Obligations.AnAirChunkMeshesToNothing := by
  intro s t hs h ht
  obtain rfl := eq_meshed_of_exec_mesh hs h ht
  have hempty (he : meshEmpty s = true) : (meshed s).faceCount = 0 :=
    meshed_faceCount_of_no_faces (visibleFaces_of_meshEmpty he)
  exact ⟨fun hair => ⟨meshEmpty_iff.2 hair, hempty (meshEmpty_iff.2 hair)⟩, hempty⟩

theorem covers_allTrue (d : Dir) : covers 0x3F d = true := by cases d <;> decide

/-- A visible face's neighbour is a cell of the chunk, and air where solid cells cover every side (R165 (b)). -/
theorem neighbour_of_visible {s : State} (hocc : ∀ i, i < s.cellCount → gridAt s i ≠ 0 → gridAt s i ≠ 1 →
    occAt s (gridAt s i).toNat = 0x3F) {i : Nat} {d : Dir} (h : (i, d) ∈ visibleFaces s) :
    (neighbour s i d).toNat < s.cellCount ∧
      (gridAt s (neighbour s i d).toNat = 0 ∨ gridAt s (neighbour s i d).toNat = 1) := by
  obtain ⟨-, hv⟩ := (mem_visibleFaces s i d).1 h
  obtain ⟨-, -, h0, hN, hopen⟩ := faceVisible_iff.1 hv
  have hcell : (neighbour s i d).toNat < s.cellCount := by omega
  refine ⟨hcell, ?_⟩
  by_contra hsolid
  obtain ⟨hne0, hne1⟩ := not_or.1 hsolid
  rw [maskAt, hocc _ hcell hne0 hne1, covers_allTrue] at hopen
  cases hopen

/-- Settles O46: in an all-solid chunk a visible face would have an air neighbour in the chunk. -/
theorem fullyOccludingBlocksShowOnlyToAir : Obligations.FullyOccludingBlocksShowOnlyToAir := by
  intro s t hs h ht hocc
  obtain rfl := eq_meshed_of_exec_mesh hs h ht
  refine ⟨fun i d hm => (neighbour_of_visible hocc hm).2, fun hsolid => ⟨?_, ?_⟩⟩
  · refine meshed_faceCount_of_no_faces (List.eq_nil_iff_forall_not_mem.2 fun ⟨i, d⟩ hm => ?_)
    obtain ⟨hcell, hair⟩ := neighbour_of_visible hocc hm
    obtain ⟨hne0, hne1⟩ := hsolid _ hcell
    exact hair.elim hne0 hne1
  · have hfirst : 0 < s.cellCount := Nat.pow_pos (dim_pos s)
    refine Bool.eq_false_iff.2 fun he => ?_
    obtain ⟨hne0, hne1⟩ := hsolid 0 hfirst
    exact (meshEmpty_iff.1 he 0 hfirst).elim hne0 hne1

/-! ## How many (R151) -/

/-- The faces of some cells, counted direction by direction. -/
theorem length_flatMap_cellFaces (s : State) (cells : List Nat) :
    (cells.flatMap (cellFaces s)).length = (Dir.all.map fun d => cells.countP (faceVisible s · d)).sum := by
  induction cells with
  | nil => rfl
  | cons i rest ih =>
    have hcell : (cellFaces s i).length = Dir.all.countP (faceVisible s i) := by
      rw [cellFaces, List.length_map, List.countP_eq_length_filter]
    rw [List.flatMap_cons, List.length_append, ih, hcell]
    simp only [Dir.all, List.countP_cons, List.countP_nil, List.map_cons, List.map_nil, List.sum_cons, List.sum_nil]
    omega

/-- Of the cells of the chunk, no face is visible where the neighbour is absent. -/
theorem countP_faceVisible_le (s : State) (d : Dir) :
    (List.range s.cellCount).countP (faceVisible s · d) + (d.off s.dim).natAbs ≤ s.cellCount := by
  have hsplit := List.length_eq_countP_add_countP (l := List.range s.cellCount) fun i => inChunk s (neighbour s i d)
  have hvisible : (List.range s.cellCount).countP (faceVisible s · d) ≤
      (List.range s.cellCount).countP fun i => inChunk s (neighbour s i d) :=
    List.countP_mono_left fun i _ hv => by
      obtain ⟨-, -, h0, hN, -⟩ := faceVisible_iff.1 hv
      exact (inChunk_iff s _).2 ⟨h0, hN⟩
  have habsent := length_absent s d
  rw [← List.countP_eq_length_filter] at habsent
  rw [List.length_range] at hsplit
  simp only [Bool.not_eq_true, Bool.decide_eq_false] at hsplit
  omega

/-- Settles O42: `countP_faceVisible_le`, summed over the six directions. -/
theorem faceCountIsBoundedByTheInnerFaces : Obligations.FaceCountIsBoundedByTheInnerFaces := by
  intro s t D hs hd hD h ht
  obtain rfl : D = s.dim := hD
  obtain rfl := eq_meshed_of_exec_mesh hs h ht
  have hcount : (visibleFaces s).length =
      (Dir.all.map fun d => (List.range s.cellCount).countP (faceVisible s · d)).sum :=
    length_flatMap_cellFaces s _
  have hsteps : (Dir.all.map fun d => (d.off s.dim).natAbs).sum = 2 * s.dim ^ 2 + 2 * s.dim + 2 := by
    simp [Dir.all, Dir.off, Int.natAbs_pow]
    ring
  rw [meshed_faceCount hd, hcount, ← hsteps, ← List.sum_map_add]
  calc _ ≤ (Dir.all.map fun _ => s.cellCount).sum := List.sum_le_sum fun d _ => countP_faceVisible_le s d
    _ = 6 * s.dim ^ 3 := by simp [Dir.all, State.cellCount]; ring

end Sys2Proof.Machine

/-! # Corner cells and ambient levels (42_mesher.md R152 to R156) -/

namespace Sys2Proof.Machine

/-! ## The cells of a corner lie in front of the face (R152 to R154) -/

/-- The strides 1, `D` and `D²` are independent: a signed sum of them is 0 only if it has none of them (R154). -/
theorem eq_zero_of_strides_sum_eq_zero {D : Nat} (hD : 2 ≤ D) {a b c : Int} (ha : |a| ≤ 1) (hb : |b| ≤ 1)
    (h : a + b * D + c * D ^ 2 = 0) : a = 0 ∧ b = 0 ∧ c = 0 := by
  have hD0 : (D : Int) ≠ 0 := by omega
  obtain rfl : a = 0 := Int.eq_zero_of_abs_lt_dvd (m := D) ⟨-(b + c * D), by linear_combination h⟩ (by omega)
  have hbc : b + c * D = 0 := by
    have hmul : (b + c * D) * D = 0 := by linear_combination h
    exact (mul_eq_zero.1 hmul).resolve_right hD0
  obtain rfl : b = 0 := Int.eq_zero_of_abs_lt_dvd (m := D) ⟨-c, by linear_combination hbc⟩ (by omega)
  have hc : c * D = 0 := by linear_combination hbc
  exact ⟨rfl, rfl, (mul_eq_zero.1 hc).resolve_right hD0⟩

/-- The step of a direction and its two tangent strides are the three strides in some order. -/
theorem eq_zero_of_off_add_tangents_eq_zero {D : Nat} (hD : 2 ≤ D) (d : Dir) {u v w : Int} (hu : |u| ≤ 1) (hv : |v| ≤ 1)
    (hw : |w| ≤ 1) (h : u * d.off D + v * d.stride1 D + w * d.stride2 D = 0) : u = 0 ∧ v = 0 ∧ w = 0 := by
  have hneg : |-u| ≤ 1 := by rwa [abs_neg]
  cases d <;> simp only [Dir.off, Dir.stride1, Dir.stride2] at h <;> push_cast at h
  case front =>
    obtain ⟨h1, h2, h3⟩ := eq_zero_of_strides_sum_eq_zero (c := u) hD hv hw (by linear_combination h)
    exact ⟨h3, h1, h2⟩
  case back =>
    obtain ⟨h1, h2, h3⟩ := eq_zero_of_strides_sum_eq_zero (c := -u) hD hv hw (by linear_combination h)
    exact ⟨neg_eq_zero.1 h3, h1, h2⟩
  case top => exact eq_zero_of_strides_sum_eq_zero hD hu hv (by linear_combination h)
  case bottom =>
    obtain ⟨h1, h2, h3⟩ := eq_zero_of_strides_sum_eq_zero (c := w) hD hneg hv (by linear_combination h)
    exact ⟨neg_eq_zero.1 h1, h2, h3⟩
  case left =>
    obtain ⟨h1, h2, h3⟩ := eq_zero_of_strides_sum_eq_zero (c := w) hD hv hu (by linear_combination h)
    exact ⟨h2, h1, h3⟩
  case right =>
    obtain ⟨h1, h2, h3⟩ := eq_zero_of_strides_sum_eq_zero (c := w) hD hv hneg (by linear_combination h)
    exact ⟨neg_eq_zero.1 h2, h1, h3⟩

/-- A cell a tangent step or two from the neighbour is neither the face's own cell nor the neighbour. -/
theorem tangent_ne {s : State} (hD : 2 ≤ s.dim) (i : Nat) (d : Dir) {v w : Int} (hv : |v| ≤ 1) (hw : |w| ≤ 1)
    (hne : v ≠ 0 ∨ w ≠ 0) :
    neighbour s i d + v * d.stride1 s.dim + w * d.stride2 s.dim ≠ i ∧
      neighbour s i d + v * d.stride1 s.dim + w * d.stride2 s.dim ≠ neighbour s i d := by
  rw [neighbour]
  refine ⟨fun h => ?_, fun h => ?_⟩
  · obtain ⟨h1, -⟩ := eq_zero_of_off_add_tangents_eq_zero (u := 1) hD d (by decide) hv hw (by linear_combination h)
    exact absurd h1 (by decide)
  · obtain ⟨-, hv0, hw0⟩ :=
      eq_zero_of_off_add_tangents_eq_zero (u := 0) hD d (by decide) hv hw (by linear_combination h)
    exact hne.elim (· hv0) (· hw0)

theorem cornerSign_abs (c b : Nat) : |cornerSign c b| = 1 := by
  rw [cornerSign]
  split <;> rfl

theorem cornerSign_zero (c : Nat) : cornerSign c 0 = if c % 2 = 1 then 1 else -1 := by
  simp [cornerSign]

theorem cornerSign_one {c : Nat} (hc : c < 4) : cornerSign c 1 = if c / 2 = 1 then 1 else -1 := by
  have hdigit : c / 2 % 2 = c / 2 := Nat.mod_eq_of_lt (by omega)
  simp [cornerSign, Nat.testBit_succ, hdigit]

/-- Settles O50: the tangent strides and signs of R152 and R153, and `tangent_ne` for each of the three cells. -/
theorem cornerCellsAreInFrontOfTheFace : Obligations.CornerCellsAreInFrontOfTheFace := by
  intro s D i c d t1 t2 s1 s2 hD hc ht hs1 hs2
  obtain rfl : D = s.dim := hD
  rw [← cornerSign_zero] at hs1
  rw [← cornerSign_one hc] at hs2
  have hstrides : t1 = d.stride1 s.dim ∧ t2 = d.stride2 s.dim := by
    cases d <;> simpa [Dir.stride1, Dir.stride2] using ht
  obtain ⟨rfl, rfl⟩ := hstrides
  have hcells : cornerCells s i d c = (neighbour s i d + s1 * d.stride1 s.dim, neighbour s i d + s2 * d.stride2 s.dim,
      neighbour s i d + s1 * d.stride1 s.dim + s2 * d.stride2 s.dim) := by rw [hs1, hs2]; rfl
  have h1 : |s1| = 1 := hs1 ▸ cornerSign_abs c 0
  have h2 : |s2| = 1 := hs2 ▸ cornerSign_abs c 1
  have hne1 : s1 ≠ 0 := abs_pos.1 (by omega)
  have hne2 : s2 ≠ 0 := abs_pos.1 (by omega)
  refine ⟨hcells, fun hD j hj => ?_⟩
  rw [hcells] at hj
  obtain rfl | rfl | rfl := hj
  · simpa using tangent_ne hD i d h1.le (w := 0) (by decide) (.inl hne1)
  · simpa using tangent_ne hD i d (v := 0) (by decide) h2.le (.inr hne2)
  · exact tangent_ne hD i d h1.le h2.le (.inl hne1)

/-! ## The level of a corner (R155, R156) -/

/-- Does the cell at index `j` count at a corner of a face of direction `d`: in range, solid, and covering the side that
points back at the face (R155)? -/
def occludes (s : State) (d : Dir) (j : Int) : Bool :=
  inChunk s j && solid (gridAt s j.toNat) && covers (maskAt s j) d.opp

theorem occl_eq (s : State) (j : Int) (d : Dir) : occl s j d = (occludes s d j).toNat := by
  rw [occl, ← occludes]
  cases occludes s d j <;> rfl

theorem length_filter_triple {α : Type} (p : α → Bool) (a b c : α) :
    ([a, b, c].filter p).length = (p a).toNat + (p b).toNat + (p c).toNat := by
  simp [← List.countP_eq_length_filter, List.countP_cons, Bool.toNat, Bool.cond_eq_ite]
  omega

theorem aoLevel_eq_length (s : State) (i c : Nat) (d : Dir) : aoLevel s i d c =
    ([(cornerCells s i d c).1, (cornerCells s i d c).2.1, (cornerCells s i d c).2.2].filter (occludes s d)).length := by
  have hle (j : Int) : (occludes s d j).toNat ≤ 1 := Bool.toNat_le _
  rw [length_filter_triple, aoLevel]
  simp only [occl_eq]
  exact min_eq_left (Nat.add_le_add (Nat.add_le_add (hle _) (hle _)) (hle _))

/-- Settles O51: `aoLevel_eq_length`, with the test of R155 written out. -/
theorem theAmbientLevelCountsOccludingCells : Obligations.TheAmbientLevelCountsOccludingCells := by
  intro s i c d
  refine ⟨(aoLevel_eq_length s i c d).trans ?_, aoLevel_le s i d c⟩
  congr 2
  funext j
  simp only [occludes, solid, ← Bool.and_assoc]
  rfl

end Sys2Proof.Machine

/-! # What `MESH` reads (42_mesher.md R163) -/

namespace Sys2Proof.Machine

/-- Two states that agree on what R163 lists: the dimension, the cells of the chunk, the table and the materials. -/
structure SameMeshInput (s s' : State) : Prop where
  dsel : s.dsel = s'.dsel
  occ : s.occ = s'.occ
  materials : s.params.materials = s'.params.materials
  cells : ∀ i, i < s.cellCount → gridAt s i = gridAt s' i

namespace SameMeshInput

section

variable {s s' : State} (h : SameMeshInput s s')
include h

theorem dim_eq : s.dim = s'.dim := congrArg dimOf h.dsel

theorem cellCount_eq : s.cellCount = s'.cellCount := congrArg (· ^ 3) h.dim_eq

theorem neighbour_eq (i : Nat) (d : Dir) : neighbour s i d = neighbour s' i d := by
  rw [neighbour, neighbour, h.dim_eq]

theorem inChunk_eq (j : Int) : inChunk s j = inChunk s' j := by rw [inChunk, inChunk, h.cellCount_eq]

theorem gridAt_eq {j : Int} (hj : inChunk s j = true) : gridAt s j.toNat = gridAt s' j.toNat := by
  rw [inChunk_iff] at hj
  exact h.cells _ (by omega)

theorem maskAt_eq {j : Int} (hj : inChunk s j = true) : maskAt s j = maskAt s' j := by
  rw [maskAt, maskAt, h.gridAt_eq hj, occAt_congr h.occ.symm]

/-- A face is visible in both or in neither: the mask is read only inside the chunk. -/
theorem faceVisible_eq {i : Nat} (hi : i < s.cellCount) (d : Dir) : faceVisible s i d = faceVisible s' i d := by
  rw [faceVisible, faceVisible, ← h.neighbour_eq, ← h.inChunk_eq, h.cells i hi]
  cases hj : inChunk s (neighbour s i d)
  · simp
  · rw [h.maskAt_eq hj]

theorem occl_eq (j : Int) (d : Dir) : occl s j d = occl s' j d := by
  rw [occl, occl, ← h.inChunk_eq]
  cases hj : inChunk s j
  · simp
  · rw [h.gridAt_eq hj, h.maskAt_eq hj]

theorem aoLevel_eq (i : Nat) (d : Dir) (c : Nat) : aoLevel s i d c = aoLevel s' i d c := by
  have hcells : cornerCells s i d c = cornerCells s' i d c := by
    rw [cornerCells, cornerCells, h.neighbour_eq, h.dim_eq]
  simp only [aoLevel, hcells, h.occl_eq]

theorem recordOf_eq {i : Nat} (hi : i < s.cellCount) (d : Dir) : recordOf s i d = recordOf s' i d := by
  simp only [recordOf, faceOf, materialOf, h.aoLevel_eq, h.cells i hi, h.materials, h.dsel]

theorem visibleFaces_eq : visibleFaces s = visibleFaces s' := by
  have hcell : ∀ i ∈ List.range s.cellCount, cellFaces s i = cellFaces s' i := fun i hi => by
    rw [cellFaces, cellFaces, funext (h.faceVisible_eq (List.mem_range.1 hi))]
  rw [visibleFaces, visibleFaces, ← h.cellCount_eq]
  exact List.flatMap_congr hcell

theorem meshRecords_eq : meshRecords s = meshRecords s' := by
  rw [meshRecords, meshRecords, ← h.visibleFaces_eq]
  exact List.map_congr_left fun ⟨i, d⟩ hf => h.recordOf_eq ((mem_visibleFaces s i d).1 hf).1 d

theorem meshEmpty_eq : meshEmpty s = meshEmpty s' := by
  rw [Bool.eq_iff_iff, meshEmpty_iff, meshEmpty_iff, ← h.cellCount_eq]
  exact forall₂_congr fun i hi => by rw [h.cells i hi]

end

end SameMeshInput

theorem fbAt_meshed_eq_getElem {s : State} {k : Nat} (hk : k < (meshRecords s).length) :
    fbAt (meshed s) k = (meshRecords s)[k] := by
  rw [meshed, fbAt_setMesh, dif_pos hk]

/-- Settles O47: two successful scans of one input leave the same records. -/
theorem meshDependsOnGridTableAndMaterialAlone : Obligations.MeshDependsOnGridTableAndMaterialAlone := by
  intro s s' t t' hs hs' hd hdsel hocc hmat hcells h h' ht ht'
  obtain rfl := eq_meshed_of_exec_mesh hs h ht
  obtain rfl := eq_meshed_of_exec_mesh hs' h' ht'
  have hsame : SameMeshInput s s' := ⟨hdsel, hocc, hmat, hcells⟩
  have hrecords := hsame.meshRecords_eq
  refine ⟨?_, hsame.meshEmpty_eq, fun k hk => ?_⟩
  · simp only [meshed, State.setMesh_faceCount, hrecords]
  · rw [meshed_faceCount hd, ← meshRecords_length] at hk
    rw [fbAt_meshed_eq_getElem hk, fbAt_meshed_eq_getElem (hrecords ▸ hk)]
    simp only [hrecords]

end Sys2Proof.Machine

/-! # Faults, the halt and the instances (60_exceptions.md) -/

namespace Sys2Proof.Machine

/-! ## What each command can raise (R181, R183, R185) -/

/-- The faults a command can raise (R181). -/
@[simp] def faultsOf : Instr → List ErrCode
  | .config _ => [.badDim, .alloc]
  | .buildTable => [.tableRebuilt]
  | .generate => [.badDim]
  | .mesh => [.badDim, .tableUnbuilt, .badType]

/-- A fault of a command is one of its own and sets the flags alone, or is `ERR_BAD_TYPE` and loses the results too. -/
theorem exec_faulted {i : Instr} {s t : State} (hs : s.fault = false) (h : exec i s = .next t) (ht : t.fault = true) :
    ∃ c ∈ faultsOf i, t = s.setFault c ∨ (c = .badType ∧ t = s.loseResults.setFault c) := by
  cases i with
  | config d =>
    obtain ⟨hf, -⟩ | ⟨-, -, rfl⟩ | ⟨-, -, -, -, rfl⟩ | ⟨-, -, -, -, rfl⟩ := execConfig_cases h
    · simp [hs] at hf
    · exact ⟨.badDim, by simp, .inl rfl⟩
    · exact ⟨.alloc, by simp, .inl rfl⟩
    · simp [hs] at ht
  | buildTable =>
    obtain ⟨hf, -⟩ | ⟨-, -, rfl⟩ | ⟨-, -, rfl⟩ := execBuildTable_cases h
    · simp [hs] at hf
    · exact ⟨.tableRebuilt, by simp, .inl rfl⟩
    · simp [hs] at ht
  | generate =>
    obtain ⟨hf, -⟩ | ⟨-, -, rfl⟩ | ⟨-, -, rfl⟩ := execGenerate_cases h
    · simp [hs] at hf
    · exact ⟨.badDim, by simp, .inl rfl⟩
    · simp [generated, hs] at ht
  | mesh =>
    obtain ⟨hf, -⟩ | ⟨-, -, rfl⟩ | ⟨-, -, -, rfl⟩ | ⟨-, -, -, -, rfl⟩ | ⟨-, -, -, -, rfl⟩ := execMesh_cases h
    · simp [hs] at hf
    · exact ⟨.badDim, by simp, .inl rfl⟩
    · exact ⟨.tableUnbuilt, by simp, .inl rfl⟩
    · exact ⟨.badType, by simp, .inr ⟨rfl, rfl⟩⟩
    · simp [meshed, hs] at ht

theorem exec_faulted_err {i : Instr} {s t : State} (hs : s.fault = false) (h : exec i s = .next t)
    (ht : t.fault = true) : t.err ∈ (faultsOf i).map ErrCode.code := by
  obtain ⟨c, hc, rfl | ⟨-, rfl⟩⟩ := exec_faulted hs h ht
  · exact List.mem_map_of_mem hc
  · exact List.mem_map_of_mem hc

/-- Settles O25: `exec_faulted`, whose second case is `ERR_BAD_TYPE`, and the codes of `faultsOf`. -/
theorem aFaultChangesOnlyFaultAndErr : Obligations.AFaultChangesOnlyFaultAndErr := by
  intro i s t hs h ht
  refine ⟨fun hne => ?_, ?_⟩
  · obtain ⟨c, -, rfl | ⟨rfl, rfl⟩⟩ := exec_faulted hs h ht
    · rfl
    · exact absurd rfl hne
  · have hcode := exec_faulted_err hs h ht
    cases i with
    | config d => simpa [ErrCode.code] using hcode
    | buildTable => simpa [ErrCode.code] using hcode
    | generate => simpa [ErrCode.code] using hcode
    | mesh => simpa [ErrCode.code] using hcode

/-! ## Who raises a fault (R180, R186) -/

/-- A transaction that is no write to `CMD` leaves `FAULT` and `ERR` as they are. -/
theorem transact_fault_err {x : Transaction} {s t : State} (hx : ∀ w, x ≠ .writeReg 0x00 w)
    (h : transact x s = .next t) : t.fault = s.fault ∧ t.err = s.err := by
  obtain ⟨w, rfl, -⟩ | ⟨-, v, r, -, -, -, rfl⟩ | ⟨i, v, -, -, rfl⟩ | ⟨r, rfl⟩ := transact_cases h
  · exact absurd rfl (hx w)
  · exact ⟨writeReg_fault s v r, writeReg_err s v r⟩
  · exact ⟨rfl, rfl⟩
  · exact ⟨rfl, rfl⟩

/-- `ERR_BAD_CMD` is no command's fault. -/
theorem badCmd_not_mem_codes (i : Instr) : (1 : BitVec 4) ∉ (faultsOf i).map ErrCode.code := by
  cases i <;> simp [ErrCode.code]

/-- A write to `CMD` that raises a fault raises `ERR_BAD_CMD` exactly for a word that is no command. -/
theorem issue_faulted_badCmd_iff {w : Word} {s t : State} (hs : s.fault = false) (h : issue w s = .next t)
    (ht : t.fault = true) : (∃ e, decode w = .error e) ↔ t.err = 1 := by
  obtain ⟨i, hd, he⟩ | ⟨e, hd, ⟨hf, -⟩ | ⟨-, rfl⟩⟩ := issue_cases h
  · have hcode := exec_faulted_err hs he ht
    exact iff_of_false (by simp [hd]) fun herr => badCmd_not_mem_codes i (herr ▸ hcode)
  · simp [hs] at hf
  · exact iff_of_true ⟨e, hd⟩ rfl

/-- Settles O13: idling, a reset and every other transaction leave `FAULT` at 0; the code is `issue_faulted_badCmd_iff`. -/
theorem onlyACommandWriteRaisesAFault : Obligations.OnlyACommandWriteRaisesAFault := by
  intro s t h hs ht
  obtain ⟨-, rfl⟩ | ⟨rest, -, rfl⟩ | ⟨x, rest, hp, hx⟩ := step_cases h
  · simp [hs] at ht
  · cases ht
  · by_cases hcmd : ∃ w, x = .writeReg 0x00 w
    · obtain ⟨w, rfl⟩ := hcmd
      exact ⟨w, rest, hp, issue_faulted_badCmd_iff (s := s.consume rest) hs hx ht⟩
    · obtain ⟨hfault, -⟩ := transact_fault_err (not_exists.1 hcmd) hx
      simp [hfault, hs] at ht

/-! ## The halt (R184, R187) -/

theorem exec_halted {s : State} (hs : s.fault = true) (i : Instr) : exec i s = .next s := by
  cases i with
  | config d => rw [exec, execConfig, whileRunning_halted hs]
  | buildTable => rw [exec, execBuildTable, whileRunning_halted hs]
  | generate => rw [exec, execGenerate, whileRunning_halted hs]
  | mesh => rw [exec, execMesh, whileRunning_halted hs]

theorem issue_halted {s : State} (hs : s.fault = true) (w : Word) : issue w s = .next s := by
  unfold issue
  split
  · exact exec_halted hs _
  · exact whileRunning_halted hs _

theorem step_writeCmd_halted {s : State} {w : Word} {rest : List HostEvent} (hs : s.fault = true)
    (hp : s.pending = .txn (.writeReg 0x00 w) :: rest) : step s = .next (s.consume rest) :=
  (step_cons hp).trans (issue_halted (s := s.consume rest) hs w)

/-- `s` with other contents of `STATUS.FAULT` and `STATUS.ERR` (10_state.md R16). -/
def State.withFault (s : State) (f : Bool) (e : BitVec 4) : State := { s with fault := f, err := e }

/-- `FAULT` and `ERR` reach nothing that a transaction does, unless it writes `CMD` or reads `STATUS`. -/
theorem transact_withFault {s u : State} {x : Transaction} (hcmd : ∀ w, x ≠ .writeReg 0x00 w)
    (hstatus : x ≠ .readReg 0x04) (h : transact x s = .next u) (f : Bool) (e : BitVec 4) :
    transact x (s.withFault f e) = .next (u.withFault f e) := by
  have hw : x.wellFormed s.params = true := Bool.of_not_eq_false fun hw => by
    rw [transact_of_not_wellFormed hw] at h
    cases h
  cases x with
  | writeReg off v =>
    obtain ⟨r, rfl⟩ := offset_inMap_iff.1 hw
    simp only [transact, regOfOffset_offsetOf] at h ⊢
    cases r with
    | cmd => exact absurd rfl (hcmd v)
    | _ => cases h; rfl
  | readReg off =>
    obtain ⟨r, rfl⟩ := offset_inMap_iff.1 hw
    simp only [transact, regOfOffset_offsetOf] at h ⊢
    cases r with
    | status => exact absurd rfl hstatus
    | _ => cases h; rfl
  | writeGrid | readGrid | readOcc | readFb =>
    have hi := of_decide_eq_true hw
    cases (if_pos hi).symm.trans h
    exact if_pos hi

/-- No transaction clears the fault or changes its code. -/
theorem transact_halted {x : Transaction} {s t : State} (hs : s.fault = true) (h : transact x s = .next t) :
    t.fault = true ∧ t.err = s.err := by
  by_cases hcmd : ∃ w, x = .writeReg 0x00 w
  · obtain ⟨w, rfl⟩ := hcmd
    cases (issue_halted hs w).symm.trans h
    exact ⟨hs, rfl⟩
  · exact hs ▸ transact_fault_err (not_exists.1 hcmd) h

/-- Settles O6: a write to `CMD` is dropped, a read of `STATUS` returns the flags held (`step_readReg`), every other
transaction does the same under either `FAULT` (`transact_withFault`), and none clears it (`transact_halted`). -/
theorem aHaltedInstanceIgnoresCommandsAndServesTheHost :
    Obligations.AHaltedInstanceIgnoresCommandsAndServesTheHost := by
  intro s hs
  refine ⟨fun w rest => step_writeCmd_halted hs, fun x rest u hp hx h => ?_, fun x rest t hp h => ?_⟩
  · have hrun : step (s.withFault false 0) = .next u := h
    have hprun : (s.withFault false 0).pending = .txn x :: rest := hp
    by_cases hstatus : x = .readReg 0x04
    · subst hstatus
      cases (step_readReg (r := .status) hprun).symm.trans hrun
      rw [if_pos rfl, ← hs]
      exact step_readReg (r := .status) hp
    · rw [step_cons hprun] at hrun
      rw [if_neg hstatus, step_cons hp, ← hs]
      exact transact_withFault hx hstatus hrun s.fault s.err
  · rw [step_cons hp] at h
    exact transact_halted (s := s.consume rest) hs h

/-- Settles O15: `step_idle`. -/
theorem anIdleInstanceKeepsAllState : Obligations.AnIdleInstanceKeepsAllState := fun _ => step_idle

/-! ## Instances side by side (R200) -/

/-- A step of the machine at `k` is that of its own state, and replaces that state alone. -/
theorem System.stepAt_eq_next_iff {sys a : System} {k : Fin sys.instances.length} :
    sys.stepAt k = .next a ↔ ∃ t, step (sys.instances.get k) = .next t ∧ a = ⟨sys.instances.set k t⟩ := by
  unfold System.stepAt
  cases step (sys.instances.get k) with
  | next t => simp [eq_comm]
  | fault r => simp
  | refused r => simp

/-- A machine steps alike whatever state another one is in. -/
theorem System.stepAt_set_of_ne {sys : System} {j k : Fin sys.instances.length} (hne : j ≠ k) {t u : State}
    (hk : k.val < (sys.instances.set j t).length) (h : step (sys.instances.get k) = .next u) :
    System.stepAt ⟨sys.instances.set j t⟩ ⟨k, hk⟩ = .next ⟨(sys.instances.set j t).set k u⟩ := by
  refine System.stepAt_eq_next_iff.2 ⟨u, ?_, rfl⟩
  rw [List.get_eq_getElem, List.getElem_set_ne (Fin.val_ne_of_ne hne)]
  exact h

/-- Settles O24: each step sets its own element of the list, and settings of two different elements commute. -/
theorem instancesShareNothing : Obligations.InstancesShareNothing := by
  intro sys a j k hne ha
  obtain ⟨t, ht, rfl⟩ := System.stepAt_eq_next_iff.1 ha
  refine ⟨List.length_set, ?_, fun n hn => List.getElem?_set_ne hn.symm, fun b hb => ?_⟩
  · rw [List.getElem?_set_self j.isLt, ht]
    rfl
  · obtain ⟨u, hu, rfl⟩ := System.stepAt_eq_next_iff.1 hb
    have hk : k.val < (sys.instances.set j t).length := by simp
    have hj : j.val < (sys.instances.set k u).length := by simp
    refine ⟨hk, hj, _, System.stepAt_set_of_ne hne hk hu, ?_⟩
    rw [List.set_comm t u (Fin.val_ne_of_ne hne)]
    exact System.stepAt_set_of_ne hne.symm hj ht

end Sys2Proof.Machine

/-! # The control flags between resets (70_reset_and_hazards.md R214) -/

namespace Sys2Proof.Machine

section

variable {s t : State}

/-- Neither `CONFIGURED` nor `TBL_BUILT` goes from 1 to 0 between `s` and `t`. -/
def SetupFlagsRise (s t : State) : Prop :=
  (s.configured = true → t.configured = true) ∧ (s.tblBuilt = true → t.tblBuilt = true)

/-- `CONFIG` sets `CONFIGURED` and `BUILD_TABLE` sets `TBL_BUILT`; no command writes either flag otherwise. -/
theorem exec_setupFlagsRise {i : Instr} (h : exec i s = .next t) : SetupFlagsRise s t := by
  cases i with
  | config d =>
    obtain ⟨-, -, htbl⟩ := exec_config_keeps h
    refine ⟨fun hconf => ?_, htbl.trans⟩
    obtain ⟨-, rfl⟩ | ⟨-, -, rfl⟩ | ⟨-, -, -, -, rfl⟩ | ⟨-, -, -, -, rfl⟩ := execConfig_cases h
    · exact hconf
    · exact hconf
    · exact hconf
    · rfl
  | buildTable =>
    obtain ⟨-, -, hconf, -⟩ := exec_buildTable_keeps h
    refine ⟨hconf.trans, fun htbl => ?_⟩
    obtain ⟨-, rfl⟩ | ⟨-, -, rfl⟩ | ⟨-, -, rfl⟩ := execBuildTable_cases h
    · exact htbl
    · exact htbl
    · rfl
  | generate =>
    obtain ⟨-, rfl⟩ | ⟨-, -, rfl⟩ | ⟨-, -, rfl⟩ := execGenerate_cases h <;> exact ⟨id, id⟩
  | mesh =>
    rw [exec_mesh_frame h]
    exact ⟨id, id⟩

theorem issue_setupFlagsRise {w : Word} (h : issue w s = .next t) : SetupFlagsRise s t := by
  obtain ⟨i, -, he⟩ | ⟨-, -, ⟨-, rfl⟩ | ⟨-, rfl⟩⟩ := issue_cases h
  · exact exec_setupFlagsRise he
  · exact ⟨id, id⟩
  · exact ⟨id, id⟩

/-- A transaction that is no write to `CMD` leaves `CONFIGURED` and `TBL_BUILT` as they are. -/
theorem transact_configured_tblBuilt {x : Transaction} (hx : ∀ w, x ≠ .writeReg 0x00 w) (h : transact x s = .next t) :
    t.configured = s.configured ∧ t.tblBuilt = s.tblBuilt := by
  obtain ⟨w, rfl, -⟩ | ⟨-, v, r, -, -, -, rfl⟩ | ⟨i, v, -, -, rfl⟩ | ⟨r, rfl⟩ := transact_cases h
  · exact absurd rfl (hx w)
  · exact ⟨writeReg_configured s v r, writeReg_tblBuilt s v r⟩
  · exact ⟨rfl, rfl⟩
  · exact ⟨rfl, rfl⟩

theorem transact_setupFlagsRise {x : Transaction} (h : transact x s = .next t) : SetupFlagsRise s t := by
  by_cases hcmd : ∃ w, x = .writeReg 0x00 w
  · obtain ⟨w, rfl⟩ := hcmd
    exact issue_setupFlagsRise h
  · obtain ⟨hconf, htbl⟩ := transact_configured_tblBuilt (not_exists.1 hcmd) h
    exact ⟨hconf.trans, htbl.trans⟩

/-- While `FAULT = 1` a write to `CMD` is dropped, and nothing else reaches the two flags. -/
theorem transact_configured_tblBuilt_of_halted {x : Transaction} (hs : s.fault = true) (h : transact x s = .next t) :
    t.configured = s.configured ∧ t.tblBuilt = s.tblBuilt := by
  by_cases hcmd : ∃ w, x = .writeReg 0x00 w
  · obtain ⟨w, rfl⟩ := hcmd
    cases (issue_halted hs w).symm.trans h
    exact ⟨rfl, rfl⟩
  · exact transact_configured_tblBuilt (not_exists.1 hcmd) h

end

/-- Settles O18: a step that is no reset idles or performs a transaction, which lowers no flag (`transact_halted`,
`transact_setupFlagsRise`) and under `FAULT = 1` changes none (`transact_configured_tblBuilt_of_halted`). -/
theorem controlFlagsOnlyRiseBetweenResets : Obligations.ControlFlagsOnlyRiseBetweenResets := by
  intro s t h hreset
  obtain ⟨-, rfl⟩ | ⟨rest, hp, -⟩ | ⟨x, rest, -, hx⟩ := step_cases h
  · exact ⟨id, id, id, fun _ => ⟨rfl, rfl, rfl⟩⟩
  · exact absurd hp (hreset rest)
  · obtain ⟨hconf, htbl⟩ := transact_setupFlagsRise hx
    have halted (hs : s.fault = true) := transact_halted (s := s.consume rest) hs hx
    refine ⟨fun hs => (halted hs).1, hconf, htbl, fun hs => ?_⟩
    obtain ⟨hconf', htbl'⟩ := transact_configured_tblBuilt_of_halted (s := s.consume rest) hs hx
    exact ⟨hconf', htbl', (halted hs).2⟩

end Sys2Proof.Machine
